-- ==== Sys2Proof/Word.lean ====
section
/-! DEFINITION. The two word sizes of the core: bytes (data, 00_scope R6) and 16-bit words (pairs, addresses, ports). -/

namespace Sys2Proof

/-- An 8-bit value: a data byte, an 8-bit register, a displacement (00_scope R6). -/
abbrev Byte := BitVec 8

/-- A 16-bit value: a register pair, an address or a port (00_scope R6). -/
abbrev Word := BitVec 16

end Sys2Proof
end

