-- ==== Sys2Proof/Syntax.lean ====
section
/-! DEFINITION. The instructions as syntax: one constructor of `Instr` per mnemonic of spec/opcode_table.json (182), with the
operand kinds of 30_encoding R302-R313, and the prefix context of the fetch phase (10_state R125, 30_encoding R321). -/

namespace Sys2Proof

/-- The seven real 8-bit registers of the field tables (R302, every value but 6). -/
inductive Reg8 where
  | b | c | d | e | h | l | a
  deriving DecidableEq, Repr

/-- `r[z] or (HL)`: the whole 3-bit operand field (R302), 6 being memory at HL. -/
inductive RegM where
  | reg (r : Reg8)
  | hl
  deriving DecidableEq, Repr

/-- The 8-bit register operand of a DD/FD form without a memory operand: H and L become IXYH and IXYL (R320 case 2, R418). -/
inductive RegX where
  | b | c | d | e | xh | xl | a
  deriving DecidableEq, Repr

/-- The pair field `rp` (R303). -/
inductive Pair where
  | bc | de | hl | sp
  deriving DecidableEq, Repr

/-- The pair field `rp2` of PUSH and POP (R304). -/
inductive PairQ where
  | bc | de | hl | af
  deriving DecidableEq, Repr

/-- The pair field of `ADD IXY,pp` (R604): p = 2 is IXY itself. -/
inductive PairP where
  | bc | de | ixy | sp
  deriving DecidableEq, Repr

/-- The eight conditions (R305). -/
inductive Cond where
  | nz | z | nc | c | po | pe | p | m
  deriving DecidableEq, Repr

/-- The four conditions of `JR cc,e` (R305, R1003). -/
inductive CondJr where
  | nz | z | nc | c
  deriving DecidableEq, Repr

/-- The index register a DD (IX) or FD (IY) byte selects (R320). -/
inductive Idx where
  | ix | iy
  deriving DecidableEq, Repr

/-- The halves IXYH and IXYL of an index register (10_state R104). -/
inductive Half where
  | high | low
  deriving DecidableEq, Repr

/-- The interrupt modes; the value 3 does not exist (10_state R121). -/
inductive IntMode where
  | im0 | im1 | im2
  deriving DecidableEq, Repr

/-- The prefix context of a fetch phase in progress (10_state R125): `none`, CB, ED, DD or FD, and DDCB or FDCB with the
displacement already fetched (30_encoding R321, R323). -/
inductive Context where
  | plain
  | cb
  | ed
  | idx (x : Idx)
  | idxCb (x : Idx) (d : Byte)
  deriving DecidableEq, Repr

/-- The instructions of spec/opcode_table.json. The prefix rows are moves of the fetch state machine of R321. -/
inductive Instr where
  /-- `NOP` (R1100). -/
  | nop
  /-- `LD dd,nn` (R420). -/
  | ldDdNn (p : Pair) (nn : Word)
  /-- `LD (BC),A` (R411). -/
  | ldBcA
  /-- `LD (DE),A` (R412). -/
  | ldDeA
  /-- `LD (nn),HL` (R425). -/
  | ldNnHl (nn : Word)
  /-- `LD (nn),A` (R413). -/
  | ldNnA (nn : Word)
  /-- `INC ss` (R605). -/
  | incSs (p : Pair)
  /-- `DEC ss` (R607). -/
  | decSs (p : Pair)
  /-- `INC r` (R520). -/
  | incR (r : Reg8)
  /-- `INC (HL)` (R521). -/
  | incHl
  /-- `DEC r` (R524). -/
  | decR (r : Reg8)
  /-- `DEC (HL)` (R525). -/
  | decHl
  /-- `LD r,n` (R401). -/
  | ldRN (r : Reg8) (n : Byte)
  /-- `LD (HL),n` (R406). -/
  | ldHlN (n : Byte)
  /-- `RLCA` (R800). -/
  | rlca
  /-- `RRCA` (R802). -/
  | rrca
  /-- `RLA` (R801). -/
  | rla
  /-- `RRA` (R803). -/
  | rra
  /-- `DAA` (R530). -/
  | daa
  /-- `CPL` (R531). -/
  | cpl
  /-- `SCF` (R534). -/
  | scf
  /-- `CCF` (R533). -/
  | ccf
  /-- `EX AF,AF'` (R441). -/
  | exAfAf
  /-- `LD A,(BC)` (R408). -/
  | ldABc
  /-- `LD A,(DE)` (R409). -/
  | ldADe
  /-- `HALT` (R1101). -/
  | halt
  /-- `RET` (R1012). -/
  | ret
  /-- `EXX` (R442). -/
  | exx
  /-- `EX (SP),HL` (R443). -/
  | exSpHl
  /-- `JP (HL)` (R1005). -/
  | jpHl
  /-- `EX DE,HL` (R440). -/
  | exDeHl
  /-- `DI` (R1103). -/
  | di
  /-- `LD SP,HL` (R428). -/
  | ldSpHl
  /-- `EI` (R1104). -/
  | ei
  /-- `ADD HL,ss` (R601). -/
  | addHlSs (p : Pair)
  /-- `LD HL,(nn)` (R422). -/
  | ldHlInd (nn : Word)
  /-- `LD A,(nn)` (R410). -/
  | ldANn (nn : Word)
  /-- `DJNZ e` (R1004). -/
  | djnz (e : Byte)
  /-- `JR e` (R1002). -/
  | jr (e : Byte)
  /-- `JR cc,e` (R1003). -/
  | jrCc (cc : CondJr) (e : Byte)
  /-- `LD r,r'` (R400). -/
  | ldRR (dst : Reg8) (src : Reg8)
  /-- `LD r,(HL)` (R402). -/
  | ldRHl (r : Reg8)
  /-- `LD (HL),r` (R404). -/
  | ldHlR (r : Reg8)
  /-- `ADD A,s` (R510). -/
  | addAS (m : RegM)
  /-- `ADD A,n` (R510). -/
  | addAN (n : Byte)
  /-- `ADC A,s` (R511). -/
  | adcAS (m : RegM)
  /-- `ADC A,n` (R511). -/
  | adcAN (n : Byte)
  /-- `SUB s` (R512). -/
  | subS (m : RegM)
  /-- `SUB n` (R512). -/
  | subN (n : Byte)
  /-- `SBC A,s` (R513). -/
  | sbcAS (m : RegM)
  /-- `SBC A,n` (R513). -/
  | sbcAN (n : Byte)
  /-- `AND s` (R514). -/
  | andS (m : RegM)
  /-- `AND n` (R514). -/
  | andN (n : Byte)
  /-- `XOR s` (R515). -/
  | xorS (m : RegM)
  /-- `XOR n` (R515). -/
  | xorN (n : Byte)
  /-- `OR s` (R516). -/
  | orS (m : RegM)
  /-- `OR n` (R516). -/
  | orN (n : Byte)
  /-- `CP s` (R517). -/
  | cpS (m : RegM)
  /-- `CP n` (R517). -/
  | cpN (n : Byte)
  /-- `RET cc` (R1013). -/
  | retCc (cc : Cond)
  /-- `POP qq` (R432). -/
  | popQq (q : PairQ)
  /-- `JP cc,nn` (R1001). -/
  | jpCcNn (cc : Cond) (nn : Word)
  /-- `JP nn` (R1000). -/
  | jpNn (nn : Word)
  /-- `CALL cc,nn` (R1011). -/
  | callCcNn (cc : Cond) (nn : Word)
  /-- `PUSH qq` (R430). -/
  | pushQq (q : PairQ)
  /-- `RST p` (R1020). -/
  | rst (y : BitVec 3)
  /-- `CALL nn` (R1010). -/
  | callNn (nn : Word)
  /-- `OUT (n),A` (R1203). -/
  | outNA (n : Byte)
  /-- `IN A,(n)` (R1200). -/
  | inAN (n : Byte)
  /-- `prefix CB` (R326). -/
  | prefixCB
  /-- `prefix ED` (R327). -/
  | prefixED
  /-- `prefix DD/FD` (R320). -/
  | prefixIdx (x : Idx)
  /-- `RLC m` (R810). -/
  | rlcM (m : RegM)
  /-- `RRC m` (R811). -/
  | rrcM (m : RegM)
  /-- `RL m` (R812). -/
  | rlM (m : RegM)
  /-- `RR m` (R813). -/
  | rrM (m : RegM)
  /-- `SLA m` (R814). -/
  | slaM (m : RegM)
  /-- `SRA m` (R815). -/
  | sraM (m : RegM)
  /-- `SLL m` (R816). -/
  | sllM (m : RegM)
  /-- `SRL m` (R817). -/
  | srlM (m : RegM)
  /-- `BIT b,r` (R901). -/
  | bitBR (b : BitVec 3) (r : Reg8)
  /-- `BIT b,(HL)` (R902). -/
  | bitBHl (b : BitVec 3)
  /-- `RES b,r` (R908). -/
  | resBR (b : BitVec 3) (r : Reg8)
  /-- `RES b,(HL)` (R909). -/
  | resBHl (b : BitVec 3)
  /-- `SET b,r` (R904). -/
  | setBR (b : BitVec 3) (r : Reg8)
  /-- `SET b,(HL)` (R905). -/
  | setBHl (b : BitVec 3)
  /-- `IN r,(C)` (R1201). -/
  | inRC (r : Reg8)
  /-- `IN F,(C)` (R1202). -/
  | inFC
  /-- `OUT (C),r` (R1204). -/
  | outCR (r : Reg8)
  /-- `OUT (C),0` (R1205). -/
  | outC0
  /-- `SBC HL,ss` (R603). -/
  | sbcHlSs (p : Pair)
  /-- `ADC HL,ss` (R602). -/
  | adcHlSs (p : Pair)
  /-- `LD (nn),dd` (R427). -/
  | ldNnDd (p : Pair) (nn : Word)
  /-- `LD dd,(nn)` (R424). -/
  | ldDdInd (p : Pair) (nn : Word)
  /-- `NEG` (R532). -/
  | neg
  /-- `RETN` (R1031). -/
  | retn
  /-- `RETI` (R1030). -/
  | reti
  /-- `IM m` (R1105). -/
  | imM (m : IntMode)
  /-- `LD I,A` (R416). -/
  | ldIA
  /-- `LD R,A` (R417). -/
  | ldRA
  /-- `LD A,I` (R414). -/
  | ldAI
  /-- `LD A,R` (R415). -/
  | ldAR
  /-- `RRD` (R821). -/
  | rrd
  /-- `RLD` (R820). -/
  | rld
  /-- `LDI` (R704). -/
  | ldi
  /-- `CPI` (R708). -/
  | cpi
  /-- `INI` (R720). -/
  | ini
  /-- `OUTI` (R724). -/
  | outi
  /-- `LDD` (R705). -/
  | ldd
  /-- `CPD` (R709). -/
  | cpd
  /-- `IND` (R721). -/
  | ind
  /-- `OUTD` (R725). -/
  | outd
  /-- `LDIR` (R706). -/
  | ldir
  /-- `CPIR` (R711). -/
  | cpir
  /-- `INIR` (R722). -/
  | inir
  /-- `OTIR` (R726). -/
  | otir
  /-- `LDDR` (R707). -/
  | lddr
  /-- `CPDR` (R712). -/
  | cpdr
  /-- `INDR` (R723). -/
  | indr
  /-- `OTDR` (R727). -/
  | otdr
  /-- `ED_UNDEFINED` (R1106). -/
  | edUndefined (op : Byte)
  /-- `ADD IXY,pp` (R604). -/
  | addIxyPp (x : Idx) (p : PairP)
  /-- `LD IXY,nn` (R421). -/
  | ldIxyNn (x : Idx) (nn : Word)
  /-- `LD (nn),IXY` (R426). -/
  | ldNnIxy (x : Idx) (nn : Word)
  /-- `INC IXY` (R606). -/
  | incIxy (x : Idx)
  /-- `LD IXY,(nn)` (R423). -/
  | ldIxyInd (x : Idx) (nn : Word)
  /-- `DEC IXY` (R608). -/
  | decIxy (x : Idx)
  /-- `INC IXYH / INC IXYL` (R523). -/
  | incXh (x : Idx) (k : Half)
  /-- `DEC IXYH / DEC IXYL` (R527). -/
  | decXh (x : Idx) (k : Half)
  /-- `LD IXYH,n / LD IXYL,n` (R419). -/
  | ldXhN (x : Idx) (k : Half) (n : Byte)
  /-- `INC (IXY+d)` (R522). -/
  | incXd (x : Idx) (d : Byte)
  /-- `DEC (IXY+d)` (R526). -/
  | decXd (x : Idx) (d : Byte)
  /-- `LD (IXY+d),n` (R407). -/
  | ldXdN (x : Idx) (d : Byte) (n : Byte)
  /-- `LD r,(IXY+d)` (R403). -/
  | ldRXd (x : Idx) (r : Reg8) (d : Byte)
  /-- `LD (IXY+d),r` (R405). -/
  | ldXdR (x : Idx) (d : Byte) (r : Reg8)
  /-- `LD with IXYH/IXYL` (R418). -/
  | ldXh (x : Idx) (dst : RegX) (src : RegX)
  /-- `ADD A,IXYH / ADD A,IXYL` (R510). -/
  | addAXh (x : Idx) (k : Half)
  /-- `ADD A,(IXY+d)` (R510). -/
  | addAXd (x : Idx) (d : Byte)
  /-- `ADC A,IXYH / ADC A,IXYL` (R511). -/
  | adcAXh (x : Idx) (k : Half)
  /-- `ADC A,(IXY+d)` (R511). -/
  | adcAXd (x : Idx) (d : Byte)
  /-- `SUB IXYH / SUB IXYL` (R512). -/
  | subXh (x : Idx) (k : Half)
  /-- `SUB (IXY+d)` (R512). -/
  | subXd (x : Idx) (d : Byte)
  /-- `SBC A,IXYH / SBC A,IXYL` (R513). -/
  | sbcAXh (x : Idx) (k : Half)
  /-- `SBC A,(IXY+d)` (R513). -/
  | sbcAXd (x : Idx) (d : Byte)
  /-- `AND IXYH / AND IXYL` (R514). -/
  | andXh (x : Idx) (k : Half)
  /-- `AND (IXY+d)` (R514). -/
  | andXd (x : Idx) (d : Byte)
  /-- `XOR IXYH / XOR IXYL` (R515). -/
  | xorXh (x : Idx) (k : Half)
  /-- `XOR (IXY+d)` (R515). -/
  | xorXd (x : Idx) (d : Byte)
  /-- `OR IXYH / OR IXYL` (R516). -/
  | orXh (x : Idx) (k : Half)
  /-- `OR (IXY+d)` (R516). -/
  | orXd (x : Idx) (d : Byte)
  /-- `CP IXYH / CP IXYL` (R517). -/
  | cpXh (x : Idx) (k : Half)
  /-- `CP (IXY+d)` (R517). -/
  | cpXd (x : Idx) (d : Byte)
  /-- `POP IXY` (R433). -/
  | popIxy (x : Idx)
  /-- `EX (SP),IXY` (R444). -/
  | exSpIxy (x : Idx)
  /-- `PUSH IXY` (R431). -/
  | pushIxy (x : Idx)
  /-- `JP (IXY)` (R1006). -/
  | jpIxy (x : Idx)
  /-- `LD SP,IXY` (R429). -/
  | ldSpIxy (x : Idx)
  /-- `prefix DD/FD CB (enter indexed-bit context)` (R323). -/
  | prefixIdxCB (x : Idx) (d : Byte)
  /-- `DD/FD overridden by DD/FD (prefix abandoned)` (R322). -/
  | overriddenByIdx (x : Idx) (x2 : Idx)
  /-- `DD/FD overridden by ED (prefix abandoned)` (R322). -/
  | overriddenByEd (x : Idx)
  /-- `ignored prefix: executes U[op]` (R1107). -/
  | ignoredPrefix (x : Idx) (op : Byte)
  /-- `RLC (IXY+d)` (R810). -/
  | rlcXd (x : Idx) (d : Byte)
  /-- `RLC (IXY+d),r (undocumented register copy)` (R804). -/
  | rlcXdR (x : Idx) (d : Byte) (r : Reg8)
  /-- `RRC (IXY+d)` (R811). -/
  | rrcXd (x : Idx) (d : Byte)
  /-- `RRC (IXY+d),r (undocumented register copy)` (R804). -/
  | rrcXdR (x : Idx) (d : Byte) (r : Reg8)
  /-- `RL (IXY+d)` (R812). -/
  | rlXd (x : Idx) (d : Byte)
  /-- `RL (IXY+d),r (undocumented register copy)` (R804). -/
  | rlXdR (x : Idx) (d : Byte) (r : Reg8)
  /-- `RR (IXY+d)` (R813). -/
  | rrXd (x : Idx) (d : Byte)
  /-- `RR (IXY+d),r (undocumented register copy)` (R804). -/
  | rrXdR (x : Idx) (d : Byte) (r : Reg8)
  /-- `SLA (IXY+d)` (R814). -/
  | slaXd (x : Idx) (d : Byte)
  /-- `SLA (IXY+d),r (undocumented register copy)` (R804). -/
  | slaXdR (x : Idx) (d : Byte) (r : Reg8)
  /-- `SRA (IXY+d)` (R815). -/
  | sraXd (x : Idx) (d : Byte)
  /-- `SRA (IXY+d),r (undocumented register copy)` (R804). -/
  | sraXdR (x : Idx) (d : Byte) (r : Reg8)
  /-- `SLL (IXY+d)` (R816). -/
  | sllXd (x : Idx) (d : Byte)
  /-- `SLL (IXY+d),r (undocumented register copy)` (R804). -/
  | sllXdR (x : Idx) (d : Byte) (r : Reg8)
  /-- `SRL (IXY+d)` (R817). -/
  | srlXd (x : Idx) (d : Byte)
  /-- `SRL (IXY+d),r (undocumented register copy)` (R804). -/
  | srlXdR (x : Idx) (d : Byte) (r : Reg8)
  /-- `BIT b,(IXY+d)` (R903). -/
  | bitBXd (x : Idx) (b : BitVec 3) (d : Byte)
  /-- `RES b,(IXY+d)` (R910). -/
  | resBXd (x : Idx) (b : BitVec 3) (d : Byte)
  /-- `RES b,(IXY+d),r (undocumented register copy)` (R911). -/
  | resBXdR (x : Idx) (b : BitVec 3) (d : Byte) (r : Reg8)
  /-- `SET b,(IXY+d)` (R906). -/
  | setBXd (x : Idx) (b : BitVec 3) (d : Byte)
  /-- `SET b,(IXY+d),r (undocumented register copy)` (R907). -/
  | setBXdR (x : Idx) (b : BitVec 3) (d : Byte) (r : Reg8)
  deriving DecidableEq, Repr

end Sys2Proof
end

