-- ==== Sys2Proof/WellFormed.lean ====
section
/-! DEFINITION. What a term of `Instr` must satisfy to stand for an encoding; most of it is in the operand types of Syntax.
Three checks remain: R418 needs a half register, R1106 an unmapped ED opcode, R1107 an opcode the prefix does not affect. -/

namespace Sys2Proof

/-- An operand of R418 that is IXYH or IXYL. -/
def RegX.isHalf : RegX → Bool
  | .xh => true
  | .xl => true
  | _ => false

/-- The ED opcodes without a mapping (47 R1106): 178 of them. -/
def edUnmapped (op : Byte) : Bool :=
  let n := op.toNat
  n < 0x40 || n == 0x77 || n == 0x7F || (0x80 ≤ n && n < 0xA0) || 0xC0 ≤ n || (0xA0 ≤ n && n < 0xC0 && 4 ≤ n % 8)

/-- The INDEXED set of 30_encoding R343: the opcodes a DD/FD prefix affects. -/
def idxAffected (op : Byte) : Bool :=
  let n := op.toNat
  let y := n / 8 % 8
  let z := n % 8
  (n < 0x40 && n % 16 == 9) || n == 0x21 || n == 0x22 || n == 0x23 || n == 0x2A || n == 0x2B
    || n == 0x24 || n == 0x25 || n == 0x26 || n == 0x2C || n == 0x2D || n == 0x2E
    || n == 0x34 || n == 0x35 || n == 0x36
    || (0x40 ≤ n && n < 0x80 && n != 0x76 && (y == 4 || y == 5 || y == 6 || z == 4 || z == 5 || z == 6))
    || (0x80 ≤ n && n < 0xC0 && (z == 4 || z == 5 || z == 6))
    || n == 0xE1 || n == 0xE3 || n == 0xE5 || n == 0xE9 || n == 0xF9

/-- The four prefix bytes (00_scope R13). -/
def isPrefixByte (op : Byte) : Bool :=
  op == 0xCB || op == 0xDD || op == 0xED || op == 0xFD

/-- `Instr.wf i`: the term stands for an encoding of the opcode map. -/
def Instr.wf : Instr → Bool
  | .ldXh _ dst src => dst.isHalf || src.isHalf
  | .edUndefined op => edUnmapped op
  | .ignoredPrefix _ op => !idxAffected op && !isPrefixByte op
  | _ => true

end Sys2Proof
end

