-- ==== Sys2Proof/Decode.lean ====
section
/-! DEFINITION. The opcode maps of 30_encoding R340-R344 as a total decoder of one fetch unit (R321), the decoder of a whole
instruction, the encoder, and the reading of an opcode-table word. A fetch unit is what one move of the state machine of R321
resolves: a prefix byte, or an opcode byte with the operand bytes after it. -/

namespace Sys2Proof

/-! ## Fields (R301) and 16-bit immediates (R203, R313) -/

/-- `hi:lo` (00_scope R8). -/
def word (hi lo : Byte) : Word := hi ++ lo

/-- The high byte of a word. -/
def hiByte (w : Word) : Byte := w.extractLsb' 8 8

/-- The low byte of a word. -/
def loByte (w : Word) : Byte := w.extractLsb' 0 8

def fieldX (op : Byte) : Nat := op.toNat / 64
def fieldY (op : Byte) : Nat := op.toNat / 8 % 8
def fieldZ (op : Byte) : Nat := op.toNat % 8
def fieldP (op : Byte) : Nat := op.toNat / 16 % 4
def fieldQ (op : Byte) : Nat := op.toNat / 8 % 2

/-- Field y as the 3-bit operand of BIT, SET, RES (R309) and RST (R310). -/
def fieldB (op : Byte) : BitVec 3 := op.extractLsb' 3 3

/-- The operand field of R302; 6 is memory at HL. -/
def regMOf : Nat → RegM
  | 0 => .reg .b
  | 1 => .reg .c
  | 2 => .reg .d
  | 3 => .reg .e
  | 4 => .reg .h
  | 5 => .reg .l
  | 6 => .hl
  | _ => .reg .a

/-- The operand field of R302 where 6 is not a register, with H and L read as the halves (R418); `none` is 6. -/
def regXOf : Nat → Option RegX
  | 0 => some .b
  | 1 => some .c
  | 2 => some .d
  | 3 => some .e
  | 4 => some .xh
  | 5 => some .xl
  | 6 => none
  | _ => some .a

/-- `rp` (R303). -/
def pairOf : Nat → Pair
  | 0 => .bc
  | 1 => .de
  | 2 => .hl
  | _ => .sp

/-- `rp2` (R304). -/
def pairQOf : Nat → PairQ
  | 0 => .bc
  | 1 => .de
  | 2 => .hl
  | _ => .af

/-- `pp` of ADD IXY,pp (R604). -/
def pairPOf : Nat → PairP
  | 0 => .bc
  | 1 => .de
  | 2 => .ixy
  | _ => .sp

/-- The conditions (R305). -/
def condOf : Nat → Cond
  | 0 => .nz
  | 1 => .z
  | 2 => .nc
  | 3 => .c
  | 4 => .po
  | 5 => .pe
  | 6 => .p
  | _ => .m

/-- The conditions of JR (R305), by y - 4. -/
def condJrOf : Nat → CondJr
  | 4 => .nz
  | 5 => .z
  | 6 => .nc
  | _ => .c

/-- The interrupt mode of ED 46 + 8y (R308). -/
def imOf : Nat → IntMode
  | 2 => .im1
  | 3 => .im2
  | 6 => .im1
  | 7 => .im2
  | _ => .im0

/-- One resolved fetch unit: its instruction (or prefix move) and how many bytes it consumes. -/
structure FetchUnit where
  instr : Instr
  len : Nat
  deriving DecidableEq, Repr

/-! ## The unprefixed map (R340) -/

/-- ALU operations on the operand field (R306, opcodes 0x80 to 0xBF). -/
def decodeAluS (y : Nat) (m : RegM) : Instr :=
  match y with
  | 0 => .addAS m
  | 1 => .adcAS m
  | 2 => .subS m
  | 3 => .sbcAS m
  | 4 => .andS m
  | 5 => .xorS m
  | 6 => .orS m
  | _ => .cpS m

/-- ALU operations on an immediate (R306, opcodes 0xC6 + 8y). -/
def decodeAluN (y : Nat) (n : Byte) : Instr :=
  match y with
  | 0 => .addAN n
  | 1 => .adcAN n
  | 2 => .subN n
  | 3 => .sbcAN n
  | 4 => .andN n
  | 5 => .xorN n
  | 6 => .orN n
  | _ => .cpN n

/-- Opcodes 0x00 to 0x3F of R340; `nn` is the word after the opcode, `n` its first byte. -/
def decodeX0 (op n : Byte) (nn : Word) : FetchUnit :=
  let y := fieldY op
  match fieldZ op with
  | 0 =>
    match y with
    | 0 => ⟨.nop, 1⟩
    | 1 => ⟨.exAfAf, 1⟩
    | 2 => ⟨.djnz n, 2⟩
    | 3 => ⟨.jr n, 2⟩
    | k => ⟨.jrCc (condJrOf k) n, 2⟩
  | 1 =>
    match fieldQ op with
    | 0 => ⟨.ldDdNn (pairOf (fieldP op)) nn, 3⟩
    | _ => ⟨.addHlSs (pairOf (fieldP op)), 1⟩
  | 2 =>
    match y with
    | 0 => ⟨.ldBcA, 1⟩
    | 1 => ⟨.ldABc, 1⟩
    | 2 => ⟨.ldDeA, 1⟩
    | 3 => ⟨.ldADe, 1⟩
    | 4 => ⟨.ldNnHl nn, 3⟩
    | 5 => ⟨.ldHlInd nn, 3⟩
    | 6 => ⟨.ldNnA nn, 3⟩
    | _ => ⟨.ldANn nn, 3⟩
  | 3 =>
    match fieldQ op with
    | 0 => ⟨.incSs (pairOf (fieldP op)), 1⟩
    | _ => ⟨.decSs (pairOf (fieldP op)), 1⟩
  | 4 =>
    match regMOf y with
    | .reg r => ⟨.incR r, 1⟩
    | .hl => ⟨.incHl, 1⟩
  | 5 =>
    match regMOf y with
    | .reg r => ⟨.decR r, 1⟩
    | .hl => ⟨.decHl, 1⟩
  | 6 =>
    match regMOf y with
    | .reg r => ⟨.ldRN r n, 2⟩
    | .hl => ⟨.ldHlN n, 2⟩
  | _ =>
    match y with
    | 0 => ⟨.rlca, 1⟩
    | 1 => ⟨.rrca, 1⟩
    | 2 => ⟨.rla, 1⟩
    | 3 => ⟨.rra, 1⟩
    | 4 => ⟨.daa, 1⟩
    | 5 => ⟨.cpl, 1⟩
    | 6 => ⟨.scf, 1⟩
    | _ => ⟨.ccf, 1⟩

/-- Opcodes 0x40 to 0x7F of R340. -/
def decodeX1 (op : Byte) : FetchUnit :=
  match regMOf (fieldY op), regMOf (fieldZ op) with
  | .reg dst, .reg src => ⟨.ldRR dst src, 1⟩
  | .reg r, .hl => ⟨.ldRHl r, 1⟩
  | .hl, .reg r => ⟨.ldHlR r, 1⟩
  | .hl, .hl => ⟨.halt, 1⟩

/-- Opcodes 0xC0 to 0xFF of R340, the four prefix bytes among them. -/
def decodeX3 (op n : Byte) (nn : Word) : FetchUnit :=
  let y := fieldY op
  match fieldZ op with
  | 0 => ⟨.retCc (condOf y), 1⟩
  | 1 =>
    match y with
    | 1 => ⟨.ret, 1⟩
    | 3 => ⟨.exx, 1⟩
    | 5 => ⟨.jpHl, 1⟩
    | 7 => ⟨.ldSpHl, 1⟩
    | _ => ⟨.popQq (pairQOf (fieldP op)), 1⟩
  | 2 => ⟨.jpCcNn (condOf y) nn, 3⟩
  | 3 =>
    match y with
    | 0 => ⟨.jpNn nn, 3⟩
    | 1 => ⟨.prefixCB, 1⟩
    | 2 => ⟨.outNA n, 2⟩
    | 3 => ⟨.inAN n, 2⟩
    | 4 => ⟨.exSpHl, 1⟩
    | 5 => ⟨.exDeHl, 1⟩
    | 6 => ⟨.di, 1⟩
    | _ => ⟨.ei, 1⟩
  | 4 => ⟨.callCcNn (condOf y) nn, 3⟩
  | 5 =>
    match y with
    | 1 => ⟨.callNn nn, 3⟩
    | 3 => ⟨.prefixIdx .ix, 1⟩
    | 5 => ⟨.prefixED, 1⟩
    | 7 => ⟨.prefixIdx .iy, 1⟩
    | _ => ⟨.pushQq (pairQOf (fieldP op)), 1⟩
  | 6 => ⟨decodeAluN y n, 2⟩
  | _ => ⟨.rst (fieldB op), 1⟩

/-- Context `none` (R340): the opcode byte and the two bytes after it. -/
def decodePlain (op b1 b2 : Byte) : FetchUnit :=
  match fieldX op with
  | 0 => decodeX0 op b1 (word b2 b1)
  | 1 => decodeX1 op
  | 2 => ⟨decodeAluS (fieldY op) (regMOf (fieldZ op)), 1⟩
  | _ => decodeX3 op b1 (word b2 b1)

/-! ## The CB map (R341) -/

/-- Context CB: rotates and shifts (R307), BIT, RES, SET. -/
def decodeCB (op : Byte) : FetchUnit :=
  let m := regMOf (fieldZ op)
  match fieldX op with
  | 0 =>
    match fieldY op with
    | 0 => ⟨.rlcM m, 1⟩
    | 1 => ⟨.rrcM m, 1⟩
    | 2 => ⟨.rlM m, 1⟩
    | 3 => ⟨.rrM m, 1⟩
    | 4 => ⟨.slaM m, 1⟩
    | 5 => ⟨.sraM m, 1⟩
    | 6 => ⟨.sllM m, 1⟩
    | _ => ⟨.srlM m, 1⟩
  | 1 =>
    match m with
    | .reg r => ⟨.bitBR (fieldB op) r, 1⟩
    | .hl => ⟨.bitBHl (fieldB op), 1⟩
  | 2 =>
    match m with
    | .reg r => ⟨.resBR (fieldB op) r, 1⟩
    | .hl => ⟨.resBHl (fieldB op), 1⟩
  | _ =>
    match m with
    | .reg r => ⟨.setBR (fieldB op) r, 1⟩
    | .hl => ⟨.setBHl (fieldB op), 1⟩

/-! ## The ED map (R342) -/

/-- ED 40 to ED 7F (R342). -/
def decodeED1 (op : Byte) (nn : Word) : FetchUnit :=
  let y := fieldY op
  match fieldZ op with
  | 0 =>
    match regMOf y with
    | .reg r => ⟨.inRC r, 1⟩
    | .hl => ⟨.inFC, 1⟩
  | 1 =>
    match regMOf y with
    | .reg r => ⟨.outCR r, 1⟩
    | .hl => ⟨.outC0, 1⟩
  | 2 =>
    match fieldQ op with
    | 0 => ⟨.sbcHlSs (pairOf (fieldP op)), 1⟩
    | _ => ⟨.adcHlSs (pairOf (fieldP op)), 1⟩
  | 3 =>
    match fieldQ op with
    | 0 => ⟨.ldNnDd (pairOf (fieldP op)) nn, 3⟩
    | _ => ⟨.ldDdInd (pairOf (fieldP op)) nn, 3⟩
  | 4 => ⟨.neg, 1⟩
  | 5 =>
    match y with
    | 1 => ⟨.reti, 1⟩
    | _ => ⟨.retn, 1⟩
  | 6 => ⟨.imM (imOf y), 1⟩
  | _ =>
    match y with
    | 0 => ⟨.ldIA, 1⟩
    | 1 => ⟨.ldRA, 1⟩
    | 2 => ⟨.ldAI, 1⟩
    | 3 => ⟨.ldAR, 1⟩
    | 4 => ⟨.rrd, 1⟩
    | 5 => ⟨.rld, 1⟩
    | _ => ⟨.edUndefined op, 1⟩

/-- ED 80 to ED BF (R311, R342). -/
def decodeED2 (op : Byte) : FetchUnit :=
  match fieldY op, fieldZ op with
  | 4, 0 => ⟨.ldi, 1⟩
  | 4, 1 => ⟨.cpi, 1⟩
  | 4, 2 => ⟨.ini, 1⟩
  | 4, 3 => ⟨.outi, 1⟩
  | 5, 0 => ⟨.ldd, 1⟩
  | 5, 1 => ⟨.cpd, 1⟩
  | 5, 2 => ⟨.ind, 1⟩
  | 5, 3 => ⟨.outd, 1⟩
  | 6, 0 => ⟨.ldir, 1⟩
  | 6, 1 => ⟨.cpir, 1⟩
  | 6, 2 => ⟨.inir, 1⟩
  | 6, 3 => ⟨.otir, 1⟩
  | 7, 0 => ⟨.lddr, 1⟩
  | 7, 1 => ⟨.cpdr, 1⟩
  | 7, 2 => ⟨.indr, 1⟩
  | 7, 3 => ⟨.otdr, 1⟩
  | _, _ => ⟨.edUndefined op, 1⟩

/-- Context ED (R327): every byte is an opcode, never a prefix. -/
def decodeED (op b1 b2 : Byte) : FetchUnit :=
  match fieldX op with
  | 1 => decodeED1 op (word b2 b1)
  | 2 => decodeED2 op
  | _ => ⟨.edUndefined op, 1⟩

/-! ## The DD/FD map (R343) and the DD CB map (R344) -/

/-- ALU operations on IXYH or IXYL (R507). -/
def decodeAluXh (y : Nat) (x : Idx) (k : Half) : Instr :=
  match y with
  | 0 => .addAXh x k
  | 1 => .adcAXh x k
  | 2 => .subXh x k
  | 3 => .sbcAXh x k
  | 4 => .andXh x k
  | 5 => .xorXh x k
  | 6 => .orXh x k
  | _ => .cpXh x k

/-- ALU operations on (IXY+d) (R507). -/
def decodeAluXd (y : Nat) (x : Idx) (d : Byte) : Instr :=
  match y with
  | 0 => .addAXd x d
  | 1 => .adcAXd x d
  | 2 => .subXd x d
  | 3 => .sbcAXd x d
  | 4 => .andXd x d
  | 5 => .xorXd x d
  | 6 => .orXd x d
  | _ => .cpXd x d

/-- Second bytes 0x40 to 0x7F (R343): the memory forms keep the real H and L (R320 case 1). -/
def decodeIdx1 (x : Idx) (op d : Byte) : FetchUnit :=
  match regMOf (fieldY op), regMOf (fieldZ op) with
  | .reg r, .hl => ⟨.ldRXd x r d, 2⟩
  | .hl, .reg r => ⟨.ldXdR x d r, 2⟩
  | _, _ =>
    match regXOf (fieldY op), regXOf (fieldZ op) with
    | some dst, some src => if dst.isHalf || src.isHalf then ⟨.ldXh x dst src, 1⟩ else ⟨.ignoredPrefix x op, 0⟩
    | _, _ => ⟨.ignoredPrefix x op, 0⟩

/-- Second bytes 0x80 to 0xBF (R343). -/
def decodeIdx2 (x : Idx) (op d : Byte) : FetchUnit :=
  match fieldZ op with
  | 4 => ⟨decodeAluXh (fieldY op) x .high, 1⟩
  | 5 => ⟨decodeAluXh (fieldY op) x .low, 1⟩
  | 6 => ⟨decodeAluXd (fieldY op) x d, 2⟩
  | _ => ⟨.ignoredPrefix x op, 0⟩

/-- Second bytes 0x00 to 0x3F (R343). -/
def decodeIdx0 (x : Idx) (op b1 b2 : Byte) : FetchUnit :=
  match op.toNat with
  | 0x09 => ⟨.addIxyPp x (pairPOf (fieldP op)), 1⟩
  | 0x19 => ⟨.addIxyPp x (pairPOf (fieldP op)), 1⟩
  | 0x21 => ⟨.ldIxyNn x (word b2 b1), 3⟩
  | 0x22 => ⟨.ldNnIxy x (word b2 b1), 3⟩
  | 0x23 => ⟨.incIxy x, 1⟩
  | 0x24 => ⟨.incXh x .high, 1⟩
  | 0x25 => ⟨.decXh x .high, 1⟩
  | 0x26 => ⟨.ldXhN x .high b1, 2⟩
  | 0x29 => ⟨.addIxyPp x (pairPOf (fieldP op)), 1⟩
  | 0x2A => ⟨.ldIxyInd x (word b2 b1), 3⟩
  | 0x2B => ⟨.decIxy x, 1⟩
  | 0x2C => ⟨.incXh x .low, 1⟩
  | 0x2D => ⟨.decXh x .low, 1⟩
  | 0x2E => ⟨.ldXhN x .low b1, 2⟩
  | 0x34 => ⟨.incXd x b1, 2⟩
  | 0x35 => ⟨.decXd x b1, 2⟩
  | 0x36 => ⟨.ldXdN x b1 b2, 3⟩
  | 0x39 => ⟨.addIxyPp x (pairPOf (fieldP op)), 1⟩
  | _ => ⟨.ignoredPrefix x op, 0⟩

/-- Second bytes 0xC0 to 0xFF (R343), with the overriding prefixes (R322) and the entry to R344 (R323). -/
def decodeIdx3 (x : Idx) (op b1 : Byte) : FetchUnit :=
  match op.toNat with
  | 0xCB => ⟨.prefixIdxCB x b1, 2⟩
  | 0xDD => ⟨.overriddenByIdx x .ix, 1⟩
  | 0xE1 => ⟨.popIxy x, 1⟩
  | 0xE3 => ⟨.exSpIxy x, 1⟩
  | 0xE5 => ⟨.pushIxy x, 1⟩
  | 0xE9 => ⟨.jpIxy x, 1⟩
  | 0xED => ⟨.overriddenByEd x, 1⟩
  | 0xF9 => ⟨.ldSpIxy x, 1⟩
  | 0xFD => ⟨.overriddenByIdx x .iy, 1⟩
  | _ => ⟨.ignoredPrefix x op, 0⟩

/-- Context DD or FD (R343). An ignored prefix consumes no byte of its own: the opcode is read again in context `none` (R325). -/
def decodeIdx (x : Idx) (op b1 b2 : Byte) : FetchUnit :=
  match fieldX op with
  | 0 => decodeIdx0 x op b1 b2
  | 1 => decodeIdx1 x op b1
  | 2 => decodeIdx2 x op b1
  | _ => decodeIdx3 x op b1

/-- The rotate or shift of a DD CB opcode without and with a register copy (R344, R804). -/
def decodeRotXd (y : Nat) (x : Idx) (d : Byte) (m : RegM) : Instr :=
  match m with
  | .hl =>
    match y with
    | 0 => .rlcXd x d
    | 1 => .rrcXd x d
    | 2 => .rlXd x d
    | 3 => .rrXd x d
    | 4 => .slaXd x d
    | 5 => .sraXd x d
    | 6 => .sllXd x d
    | _ => .srlXd x d
  | .reg r =>
    match y with
    | 0 => .rlcXdR x d r
    | 1 => .rrcXdR x d r
    | 2 => .rlXdR x d r
    | 3 => .rrXdR x d r
    | 4 => .slaXdR x d r
    | 5 => .sraXdR x d r
    | 6 => .sllXdR x d r
    | _ => .srlXdR x d r

/-- Context DDCB or FDCB (R344), the displacement d already fetched. -/
def decodeIdxCB (x : Idx) (d op : Byte) : FetchUnit :=
  let m := regMOf (fieldZ op)
  match fieldX op with
  | 0 => ⟨decodeRotXd (fieldY op) x d m, 1⟩
  | 1 => ⟨.bitBXd x (fieldB op) d, 1⟩
  | 2 =>
    match m with
    | .hl => ⟨.resBXd x (fieldB op) d, 1⟩
    | .reg r => ⟨.resBXdR x (fieldB op) d r, 1⟩
  | _ =>
    match m with
    | .hl => ⟨.setBXd x (fieldB op) d, 1⟩
    | .reg r => ⟨.setBXdR x (fieldB op) d r, 1⟩

/-! ## One fetch unit, and a whole instruction -/

/-- Resolve one fetch unit in its context (R321): the next byte and the two after it. Total (R328). -/
def decodeUnit (c : Context) (b0 b1 b2 : Byte) : FetchUnit :=
  match c with
  | .plain => decodePlain b0 b1 b2
  | .cb => decodeCB b0
  | .ed => decodeED b0 b1 b2
  | .idx x => decodeIdx x b0 b1 b2
  | .idxCb x d => decodeIdxCB x d b0

/-- The context a prefix move leads to (R321); `none` for an instruction that ends the fetch phase. -/
def nextContext : Instr → Option Context
  | .prefixCB => some .cb
  | .prefixED => some .ed
  | .prefixIdx x => some (.idx x)
  | .prefixIdxCB x d => some (.idxCb x d)
  | .overriddenByIdx _ x2 => some (.idx x2)
  | .overriddenByEd _ => some .ed
  | .ignoredPrefix _ _ => some .plain
  | _ => none

/-- Why a list of bytes is not an instruction: it ends inside one. No byte sequence is illegal (R328). -/
inductive DecodeReject where
  | truncated
  deriving DecidableEq, Repr

/-- `decodeFrom n c bs`: at most n fetch units from context c. -/
def decodeFrom : Nat → Context → List Byte → Except DecodeReject (Instr × List Byte)
  | 0, _, _ => .error .truncated
  | _ + 1, _, [] => .error .truncated
  | n + 1, c, b0 :: rest =>
    let u := decodeUnit c b0 (rest.getD 0 0) (rest.getD 1 0)
    if rest.length + 1 < u.len then .error .truncated
    else match nextContext u.instr with
      | none => .ok (u.instr, (b0 :: rest).drop u.len)
      | some c' => decodeFrom n c' ((b0 :: rest).drop u.len)

/-- The instruction at the head of a list of bytes, prefixes and all, with the bytes after it (R328). -/
def decode (bs : List Byte) : Except DecodeReject (Instr × List Byte) :=
  decodeFrom (2 * bs.length) .plain bs

/-! ## The encoder -/

def Reg8.code : Reg8 → Nat
  | .b => 0
  | .c => 1
  | .d => 2
  | .e => 3
  | .h => 4
  | .l => 5
  | .a => 7

def RegM.code : RegM → Nat
  | .reg r => r.code
  | .hl => 6

def RegX.code : RegX → Nat
  | .b => 0
  | .c => 1
  | .d => 2
  | .e => 3
  | .xh => 4
  | .xl => 5
  | .a => 7

def Pair.code : Pair → Nat
  | .bc => 0
  | .de => 1
  | .hl => 2
  | .sp => 3

def PairQ.code : PairQ → Nat
  | .bc => 0
  | .de => 1
  | .hl => 2
  | .af => 3

def PairP.code : PairP → Nat
  | .bc => 0
  | .de => 1
  | .ixy => 2
  | .sp => 3

def Cond.code : Cond → Nat
  | .nz => 0
  | .z => 1
  | .nc => 2
  | .c => 3
  | .po => 4
  | .pe => 5
  | .p => 6
  | .m => 7

def CondJr.code : CondJr → Nat
  | .nz => 4
  | .z => 5
  | .nc => 6
  | .c => 7

def IntMode.code : IntMode → Nat
  | .im0 => 0
  | .im1 => 2
  | .im2 => 3

def Half.code : Half → Nat
  | .high => 4
  | .low => 5

/-- The prefix byte of an index register (R320). -/
def Idx.byte : Idx → Byte
  | .ix => 0xDD
  | .iy => 0xFD

/-- The opcode byte with fields x, y, z (R301). -/
def opXyz (x y z : Nat) : Byte := BitVec.ofNat 8 (64 * x + 8 * y + z)

/-- The opcode byte with fields x, p, q, z (R301). -/
def opXpqz (x p q z : Nat) : Byte := BitVec.ofNat 8 (64 * x + 16 * p + 8 * q + z)

/-- The two bytes of a 16-bit immediate, low byte first (R203). -/
def leBytes (nn : Word) : List Byte := [loByte nn, hiByte nn]

/-- The bytes of an instruction; of the duplicate encodings of R342 and R344, the first. A prefix row gives its own bytes. -/
def encode : Instr → List Byte
  | .nop => [0x00]
  | .ldDdNn p nn => opXpqz 0 p.code 0 1 :: leBytes nn
  | .ldBcA => [0x02]
  | .ldDeA => [0x12]
  | .ldNnHl nn => 0x22 :: leBytes nn
  | .ldNnA nn => 0x32 :: leBytes nn
  | .incSs p => [opXpqz 0 p.code 0 3]
  | .decSs p => [opXpqz 0 p.code 1 3]
  | .incR r => [opXyz 0 r.code 4]
  | .incHl => [0x34]
  | .decR r => [opXyz 0 r.code 5]
  | .decHl => [0x35]
  | .ldRN r n => [opXyz 0 r.code 6, n]
  | .ldHlN n => [0x36, n]
  | .rlca => [0x07]
  | .rrca => [0x0F]
  | .rla => [0x17]
  | .rra => [0x1F]
  | .daa => [0x27]
  | .cpl => [0x2F]
  | .scf => [0x37]
  | .ccf => [0x3F]
  | .exAfAf => [0x08]
  | .ldABc => [0x0A]
  | .ldADe => [0x1A]
  | .halt => [0x76]
  | .ret => [0xC9]
  | .exx => [0xD9]
  | .exSpHl => [0xE3]
  | .jpHl => [0xE9]
  | .exDeHl => [0xEB]
  | .di => [0xF3]
  | .ldSpHl => [0xF9]
  | .ei => [0xFB]
  | .addHlSs p => [opXpqz 0 p.code 1 1]
  | .ldHlInd nn => 0x2A :: leBytes nn
  | .ldANn nn => 0x3A :: leBytes nn
  | .djnz e => [0x10, e]
  | .jr e => [0x18, e]
  | .jrCc cc e => [opXyz 0 cc.code 0, e]
  | .ldRR dst src => [opXyz 1 dst.code src.code]
  | .ldRHl r => [opXyz 1 r.code 6]
  | .ldHlR r => [opXyz 1 6 r.code]
  | .addAS m => [opXyz 2 0 m.code]
  | .addAN n => [opXyz 3 0 6, n]
  | .adcAS m => [opXyz 2 1 m.code]
  | .adcAN n => [opXyz 3 1 6, n]
  | .subS m => [opXyz 2 2 m.code]
  | .subN n => [opXyz 3 2 6, n]
  | .sbcAS m => [opXyz 2 3 m.code]
  | .sbcAN n => [opXyz 3 3 6, n]
  | .andS m => [opXyz 2 4 m.code]
  | .andN n => [opXyz 3 4 6, n]
  | .xorS m => [opXyz 2 5 m.code]
  | .xorN n => [opXyz 3 5 6, n]
  | .orS m => [opXyz 2 6 m.code]
  | .orN n => [opXyz 3 6 6, n]
  | .cpS m => [opXyz 2 7 m.code]
  | .cpN n => [opXyz 3 7 6, n]
  | .retCc cc => [opXyz 3 cc.code 0]
  | .popQq q => [opXpqz 3 q.code 0 1]
  | .jpCcNn cc nn => opXyz 3 cc.code 2 :: leBytes nn
  | .jpNn nn => 0xC3 :: leBytes nn
  | .callCcNn cc nn => opXyz 3 cc.code 4 :: leBytes nn
  | .pushQq q => [opXpqz 3 q.code 0 5]
  | .rst y => [opXyz 3 y.toNat 7]
  | .callNn nn => 0xCD :: leBytes nn
  | .outNA n => [0xD3, n]
  | .inAN n => [0xDB, n]
  | .prefixCB => [0xCB]
  | .prefixED => [0xED]
  | .prefixIdx x => [x.byte]
  | .rlcM m => [0xCB, opXyz 0 0 m.code]
  | .rrcM m => [0xCB, opXyz 0 1 m.code]
  | .rlM m => [0xCB, opXyz 0 2 m.code]
  | .rrM m => [0xCB, opXyz 0 3 m.code]
  | .slaM m => [0xCB, opXyz 0 4 m.code]
  | .sraM m => [0xCB, opXyz 0 5 m.code]
  | .sllM m => [0xCB, opXyz 0 6 m.code]
  | .srlM m => [0xCB, opXyz 0 7 m.code]
  | .bitBR b r => [0xCB, opXyz 1 b.toNat r.code]
  | .bitBHl b => [0xCB, opXyz 1 b.toNat 6]
  | .resBR b r => [0xCB, opXyz 2 b.toNat r.code]
  | .resBHl b => [0xCB, opXyz 2 b.toNat 6]
  | .setBR b r => [0xCB, opXyz 3 b.toNat r.code]
  | .setBHl b => [0xCB, opXyz 3 b.toNat 6]
  | .inRC r => [0xED, opXyz 1 r.code 0]
  | .inFC => [0xED, 0x70]
  | .outCR r => [0xED, opXyz 1 r.code 1]
  | .outC0 => [0xED, 0x71]
  | .sbcHlSs p => [0xED, opXpqz 1 p.code 0 2]
  | .adcHlSs p => [0xED, opXpqz 1 p.code 1 2]
  | .ldNnDd p nn => 0xED :: opXpqz 1 p.code 0 3 :: leBytes nn
  | .ldDdInd p nn => 0xED :: opXpqz 1 p.code 1 3 :: leBytes nn
  | .neg => [0xED, 0x44]
  | .retn => [0xED, 0x45]
  | .reti => [0xED, 0x4D]
  | .imM m => [0xED, opXyz 1 m.code 6]
  | .ldIA => [0xED, 0x47]
  | .ldRA => [0xED, 0x4F]
  | .ldAI => [0xED, 0x57]
  | .ldAR => [0xED, 0x5F]
  | .rrd => [0xED, 0x67]
  | .rld => [0xED, 0x6F]
  | .ldi => [0xED, 0xA0]
  | .cpi => [0xED, 0xA1]
  | .ini => [0xED, 0xA2]
  | .outi => [0xED, 0xA3]
  | .ldd => [0xED, 0xA8]
  | .cpd => [0xED, 0xA9]
  | .ind => [0xED, 0xAA]
  | .outd => [0xED, 0xAB]
  | .ldir => [0xED, 0xB0]
  | .cpir => [0xED, 0xB1]
  | .inir => [0xED, 0xB2]
  | .otir => [0xED, 0xB3]
  | .lddr => [0xED, 0xB8]
  | .cpdr => [0xED, 0xB9]
  | .indr => [0xED, 0xBA]
  | .otdr => [0xED, 0xBB]
  | .edUndefined op => [0xED, op]
  | .addIxyPp x p => [x.byte, opXpqz 0 p.code 1 1]
  | .ldIxyNn x nn => x.byte :: 0x21 :: leBytes nn
  | .ldNnIxy x nn => x.byte :: 0x22 :: leBytes nn
  | .incIxy x => [x.byte, 0x23]
  | .ldIxyInd x nn => x.byte :: 0x2A :: leBytes nn
  | .decIxy x => [x.byte, 0x2B]
  | .incXh x k => [x.byte, opXyz 0 k.code 4]
  | .decXh x k => [x.byte, opXyz 0 k.code 5]
  | .ldXhN x k n => [x.byte, opXyz 0 k.code 6, n]
  | .incXd x d => [x.byte, 0x34, d]
  | .decXd x d => [x.byte, 0x35, d]
  | .ldXdN x d n => [x.byte, 0x36, d, n]
  | .ldRXd x r d => [x.byte, opXyz 1 r.code 6, d]
  | .ldXdR x d r => [x.byte, opXyz 1 6 r.code, d]
  | .ldXh x dst src => [x.byte, opXyz 1 dst.code src.code]
  | .addAXh x k => [x.byte, opXyz 2 0 k.code]
  | .addAXd x d => [x.byte, opXyz 2 0 6, d]
  | .adcAXh x k => [x.byte, opXyz 2 1 k.code]
  | .adcAXd x d => [x.byte, opXyz 2 1 6, d]
  | .subXh x k => [x.byte, opXyz 2 2 k.code]
  | .subXd x d => [x.byte, opXyz 2 2 6, d]
  | .sbcAXh x k => [x.byte, opXyz 2 3 k.code]
  | .sbcAXd x d => [x.byte, opXyz 2 3 6, d]
  | .andXh x k => [x.byte, opXyz 2 4 k.code]
  | .andXd x d => [x.byte, opXyz 2 4 6, d]
  | .xorXh x k => [x.byte, opXyz 2 5 k.code]
  | .xorXd x d => [x.byte, opXyz 2 5 6, d]
  | .orXh x k => [x.byte, opXyz 2 6 k.code]
  | .orXd x d => [x.byte, opXyz 2 6 6, d]
  | .cpXh x k => [x.byte, opXyz 2 7 k.code]
  | .cpXd x d => [x.byte, opXyz 2 7 6, d]
  | .popIxy x => [x.byte, 0xE1]
  | .exSpIxy x => [x.byte, 0xE3]
  | .pushIxy x => [x.byte, 0xE5]
  | .jpIxy x => [x.byte, 0xE9]
  | .ldSpIxy x => [x.byte, 0xF9]
  | .prefixIdxCB x d => [x.byte, 0xCB, d]
  | .overriddenByIdx x x2 => [x.byte, x2.byte]
  | .overriddenByEd x => [x.byte, 0xED]
  | .ignoredPrefix x op => [x.byte, op]
  | .rlcXd x d => [x.byte, 0xCB, d, opXyz 0 0 6]
  | .rlcXdR x d r => [x.byte, 0xCB, d, opXyz 0 0 r.code]
  | .rrcXd x d => [x.byte, 0xCB, d, opXyz 0 1 6]
  | .rrcXdR x d r => [x.byte, 0xCB, d, opXyz 0 1 r.code]
  | .rlXd x d => [x.byte, 0xCB, d, opXyz 0 2 6]
  | .rlXdR x d r => [x.byte, 0xCB, d, opXyz 0 2 r.code]
  | .rrXd x d => [x.byte, 0xCB, d, opXyz 0 3 6]
  | .rrXdR x d r => [x.byte, 0xCB, d, opXyz 0 3 r.code]
  | .slaXd x d => [x.byte, 0xCB, d, opXyz 0 4 6]
  | .slaXdR x d r => [x.byte, 0xCB, d, opXyz 0 4 r.code]
  | .sraXd x d => [x.byte, 0xCB, d, opXyz 0 5 6]
  | .sraXdR x d r => [x.byte, 0xCB, d, opXyz 0 5 r.code]
  | .sllXd x d => [x.byte, 0xCB, d, opXyz 0 6 6]
  | .sllXdR x d r => [x.byte, 0xCB, d, opXyz 0 6 r.code]
  | .srlXd x d => [x.byte, 0xCB, d, opXyz 0 7 6]
  | .srlXdR x d r => [x.byte, 0xCB, d, opXyz 0 7 r.code]
  | .bitBXd x b d => [x.byte, 0xCB, d, opXyz 1 b.toNat 6]
  | .resBXd x b d => [x.byte, 0xCB, d, opXyz 2 b.toNat 6]
  | .resBXdR x b d r => [x.byte, 0xCB, d, opXyz 2 b.toNat r.code]
  | .setBXd x b d => [x.byte, 0xCB, d, opXyz 3 b.toNat 6]
  | .setBXdR x b d r => [x.byte, 0xCB, d, opXyz 3 b.toNat r.code]

/-! ## The opcode-table word (log 10) -/

/-- The key bytes of a table word, first byte first. The table's keys hold the first byte in their highest bits (INDEX.md);
a word whose first byte would then be no prefix byte is read the other way round. -/
def tableKey (nbits w : Nat) : List Byte :=
  let b (k : Nat) : Byte := BitVec.ofNat 8 (w / 256 ^ k)
  match (nbits + 7) / 8 with
  | 0 => []
  | 1 => [b 0]
  | 2 => if isPrefixByte (b 1) then [b 1, b 0] else [b 0, b 1]
  | 3 => if isPrefixByte (b 2) then [b 2, b 1, b 0] else [b 0, b 1, b 2]
  | _ => [b 3, b 2, b 1, b 0]

/-- The bytes as they lie in memory: the key of a DD CB row omits the displacement (INDEX.md), which is 0 here, as is every
operand byte the key has no bits for. -/
def tableBytes (nbits w : Nat) : List Byte :=
  match tableKey nbits w with
  | [p, q, op] => [p, q, 0, op]
  | ks => (ks ++ [0, 0, 0]).take 4

/-- The n-th fetch unit of a list of bytes: one per key byte, so a prefix row of the table is its prefix move. -/
def decodeNth : Nat → Context → List Byte → Option Instr
  | 0, _, _ => none
  | n + 1, c, bs =>
    let u := decodeUnit c (bs.getD 0 0) (bs.getD 1 0) (bs.getD 2 0)
    if n = 0 then some u.instr
    else match nextContext u.instr with
      | none => none
      | some c' => decodeNth n c' (bs.drop u.len)

/-- The instruction the decoder reads from an opcode-table word (log 10). -/
def decodeTableWord (nbits w : Nat) : Option Instr :=
  decodeNth (tableKey nbits w).length .plain (tableBytes nbits w)

end Sys2Proof
end

