-- ==== Sys2Proof/Machine/Memory.lean ====
section
/-! DEFINITION. The 64K byte memory (20_memory R200) as a sorted list of cells, in one canonical form (log 3). -/

namespace Sys2Proof.Machine

/-- What an address that is not listed reads as: DESIGN CHOICE 0x00, unsafe (log 3; R1461 `RAM(lo, hi)` takes 0x00 too). -/
def unlistedByte : Byte := 0

/-- The byte at an address (R200, R213). -/
def memRead : List Host.Cell → Nat → Byte
  | [], _ => unlistedByte
  | (k, v) :: rest, a => if k = a then v else memRead rest a

/-- Store a byte (R200, R213), keeping the canonical form: writing the unlisted byte removes the entry. -/
def memWrite : List Host.Cell → Nat → Byte → List Host.Cell
  | [], a, v => if v = unlistedByte then [] else [(a, v)]
  | (k, w) :: rest, a, v =>
    if a < k then (if v = unlistedByte then (k, w) :: rest else (a, v) :: (k, w) :: rest)
    else if a = k then (if v = unlistedByte then rest else (a, v) :: rest)
    else (k, w) :: memWrite rest a v

/-- Store bytes at rising addresses modulo 65,536 (R202): how a program is placed in memory. -/
def memLoad (m : List Host.Cell) (a : Word) : List Byte → List Host.Cell
  | [] => m
  | v :: vs => memLoad (memWrite m a.toNat v) (a + 1) vs

/-- The canonical form: addresses strictly rising, all below 65,536, no entry equal to the unlisted byte. -/
abbrev Memory.wf (m : List Host.Cell) : Prop :=
  m.Pairwise (fun p q => p.1 < q.1) ∧ ∀ c ∈ m, c.1 < 65536 ∧ c.2 ≠ unlistedByte

end Sys2Proof.Machine
end

