-- ==== Sys2Proof/Config.lean ====
section
/-! DEFINITION. What the spec leaves to a parameter (00_scope R7) and the free values it leaves to the host or to `draw()`
(20_memory R219, 93 part 1). A free value is an opaque constant: nothing can evaluate it. -/

namespace Sys2Proof

/-- Where Y and X of `BIT b,(HL)` come from (R7 `BIT_HL_XY`, R902). -/
inductive BitHlXy where
  | operand
  | any
  deriving DecidableEq, Repr

/-- Where Y and X of `BIT b,(IXY+d)` come from (R7 `BIT_IDX_XY`, R903). -/
inductive BitIdxXy where
  | addrHigh
  | any
  deriving DecidableEq, Repr

/-- Where Y and X of SCF and CCF come from (R7 `SCF_CCF_XY`, R533, R534). -/
inductive ScfCcfXy where
  | fromA
  | any
  deriving DecidableEq, Repr

/-- The flags of a block step that repeats (R7 `BLOCK_REPEAT_FLAGS`, R713). -/
inductive BlockRepeatFlags where
  | classic
  | any
  deriving DecidableEq, Repr

/-- PV of `LD A,I` and `LD A,R` when INT can be accepted right after (R7 `LD_A_IR_QUIRK`, R1328). -/
inductive LdAIrQuirk where
  | off
  | any
  deriving DecidableEq, Repr

/-- What a register that reset leaves unspecified is until it is written (R7 `RESET_REGS`, 10_state R130). -/
inductive ResetRegs where
  | draw
  | faultOnRead
  deriving DecidableEq, Repr

/-- IFF2 after an NMI acceptance, where the spec's files differ: unchanged (60 R1322, 10_state R120, R128), or the IFF1 of the moment of
the NMI (60 R1327). DESIGN CHOICE, safe: both are there, R1322's is the default (log 16). -/
inductive NmiIff2 where
  | keep
  | fromIff1
  deriving DecidableEq, Repr

/-- The seven open parameters of 00_scope R7, which a model takes as a configuration argument, and the model's own `nmiIff2` (log 16). -/
structure Params where
  /-- `RESET_REGS` (R130, R1400). -/
  resetRegs : ResetRegs
  /-- `RETI_RESTORES_IFF` (R1030). -/
  retiRestoresIff : Bool
  /-- `BIT_HL_XY` (R902). -/
  bitHlXy : BitHlXy
  /-- `BIT_IDX_XY` (R903). -/
  bitIdxXy : BitIdxXy
  /-- `SCF_CCF_XY` (R533, R534). -/
  scfCcfXy : ScfCcfXy
  /-- `BLOCK_REPEAT_FLAGS` (R713). -/
  blockRepeatFlags : BlockRepeatFlags
  /-- `LD_A_IR_QUIRK` (R414, R415, R1328). -/
  ldAIrQuirk : LdAIrQuirk
  /-- The model's own: IFF2 after an NMI acceptance (R1322 or R1327, log 16). -/
  nmiIff2 : NmiIff2
  deriving DecidableEq, Repr

/-- The defaults of 00_scope R7, and of log 16. -/
def Config.defaultParams : Params where
  resetRegs := .draw
  retiRestoresIff := true
  bitHlXy := .operand
  bitIdxXy := .addrHigh
  scfCcfXy := .fromA
  blockRepeatFlags := .classic
  ldAIrQuirk := .off
  nmiIff2 := .keep

/-- FREE VALUE (log 7): what the host answers to the n-th drawn read, at an address that is not assumed to be plain RAM (R219, log 5). -/
opaque Config.hostByte : Nat → Word → Byte

/-- FREE VALUE (log 7, log 8): what the host answers to the n-th drawn read, of a port, where no device model is assumed (R219). -/
opaque Config.portByte : Nat → Word → Byte

/-- FREE VALUE (log 7): the n-th `draw()` of one flag bit under a parameter at ANY (R7, R10). -/
opaque Config.drawBit : Nat → Bool

/-- FREE VALUE (log 7): the n-th `draw()` of a byte under a parameter at ANY (R902, R903). -/
opaque Config.drawByte : Nat → Byte

/-- FREE VALUE (log 1): the word a reset of a running machine leaves in the k-th register R1400 leaves unspecified, the draw counter at n. -/
opaque Config.resetWord : Nat → Nat → Word

/-- How many fetch units one model step may take before it hands back an unfinished chain of DD/FD prefixes (R322, R1460, log 9):
more than the 65,536 addresses, so a chain in plain RAM that is unfinished then never ends. -/
def Config.maxUnits : Nat := 65600

end Sys2Proof
end

