-- ==== Sys2Proof/Machine/State.lean ====
section
/-! DEFINITION. The state object of 10_state R100 as plain data, the outputs of a step (R127), the host's inputs (R126), the
memory (20_memory R200) and the model's own fields; why a step can stop; and the state right after reset (70 R1400). -/

namespace Sys2Proof.Machine

/-- A, F and the six general registers (R101, R102); the shadow set has the same shape (R103). -/
structure RegFile where
  a : Byte
  f : Byte
  b : Byte
  c : Byte
  d : Byte
  e : Byte
  h : Byte
  l : Byte
  deriving DecidableEq, Repr

/-- `int_inhibit` (R124). -/
inductive IntInhibit where
  | none
  | ei
  deriving DecidableEq, Repr

/-- The kind of an interrupt acknowledge (R209, R1320). -/
inductive AckKind where
  | nmi
  | im0
  | im1
  | im2
  deriving DecidableEq, Repr

/-- The events a step records in issue order (20_memory R209). -/
inductive Event where
  | fetch (addr : Word) (v : Byte) (m1 : Bool)
  | read (addr : Word) (v : Byte)
  | write (addr : Word) (v : Byte)
  | input (port : Word) (v : Byte)
  | output (port : Word) (v : Byte)
  | intAck (kind : AckKind)
  | retiSignal
  deriving DecidableEq, Repr

/-- The eight flags of F (10_state R110). -/
inductive Flag where
  | s | z | y | h | x | pv | n | c
  deriving DecidableEq, Repr

/-- A register that R1400 leaves unspecified, as R130 counts it: byte by byte, and F flag by flag (log 17). -/
inductive RegName where
  /-- A, B, C, D, E, H or L. -/
  | main (r : Reg8)
  /-- A flag of F. -/
  | flag (k : Flag)
  /-- A', B', C', D', E', H' or L'. -/
  | shadow (r : Reg8)
  /-- A flag of F'. -/
  | shadowFlag (k : Flag)
  /-- A half of IX or IY. -/
  | half (x : Idx) (k : Half)
  | sp
  deriving DecidableEq, Repr

/-- An address range, both ends included. -/
structure AddrRange where
  lo : Word
  hi : Word
  deriving DecidableEq, Repr

/-- The machine (10_state R100, R128), with the host's memory (20_memory R200). -/
structure State where
  /-- A, F, B, C, D, E, H, L (R101, R102). -/
  regs : RegFile
  /-- The shadow set (R103). -/
  shadow : RegFile
  /-- IX (R104). -/
  ix : Word
  /-- IY (R104). -/
  iy : Word
  /-- SP (R105). -/
  sp : Word
  /-- PC (R106). -/
  pc : Word
  /-- I (R107). -/
  i : Byte
  /-- R (R108, R123). -/
  r : Byte
  /-- IFF1 (R120). -/
  iff1 : Bool
  /-- IFF2 (R120). -/
  iff2 : Bool
  /-- IM (R121). -/
  im : IntMode
  /-- `halted` (R122). -/
  halted : Bool
  /-- `int_inhibit` (R124). -/
  intInhibit : IntInhibit
  /-- `nmi_pending` (R126). -/
  nmiPending : Bool
  /-- `int_line`, the host's input (R126). -/
  intLine : Bool
  /-- `int_data`, the host's input (R126). -/
  intData : Byte
  /-- The prefix context of an unfinished fetch phase; `none` at every instruction boundary (R125, R321, log 9). -/
  fetching : Option Context
  /-- The memory (20_memory R200), in the canonical form `Memory.wf`. -/
  mem : List Host.Cell
  /-- The events of the current or last step (20_memory R209). -/
  events : List Event
  /-- The cycle count of the current or last step (70 R1440). -/
  cycles : Nat
  /-- The model's own: the addresses assumed to be plain RAM, `RAM(lo, hi)` of R1461; none by default (20_memory R219, log 5). -/
  ram : List AddrRange
  /-- The model's own: the device model assumed of the ports, `Ports(p = v, …)` of R1461; none by default (20_memory R219, log 8). -/
  ports : Option (List (Word × Byte))
  /-- The model's own: how many free values have been used (log 7). -/
  draws : Nat
  /-- The model's own: the parameters of 00_scope R7 (log 6). -/
  params : Params
  /-- The model's own: the registers not yet written since reset, under RESET_REGS = FAULT_ON_READ (10_state R130, log 17). -/
  unwritten : List RegName
  deriving DecidableEq, Repr

/-- Why a step can stop with a fault: one verdict on the model's configuration, no exception of the hardware (60 R1300, R1301). -/
inductive Fault where
  /-- The read-before-write fault of `RESET_REGS = FAULT_ON_READ` (10_state R130): an instruction, or the push of an acceptance, reads a
  register that nothing has written since reset. Raised by `checkReads`; never under DRAW. SAFE: the spec itself stops here. -/
  | readBeforeWrite (r : RegName)
  deriving DecidableEq, Repr

/-- Why a step can be refused. -/
inductive Refusal where
  /-- An instruction that has no meaning yet, raised by the dispatcher alone; no arm of this model answers it. SAFE. -/
  | notModelled (mnemonic : String)
  /-- `IM0_NOT_RST` (60 R1325, R1330): an IM0 acceptance whose `int_data` is not an RST byte, raised by `acceptInt`. SAFE: the
  spec itself refuses to give this step a meaning. -/
  | im0NotRst
  deriving DecidableEq, Repr

/-- A register file of zeros: R1400 leaves these registers unspecified; DESIGN CHOICE 0x00, unsafe (log 1). -/
def RegFile.unspecified : RegFile := ⟨0, 0, 0, 0, 0, 0, 0, 0⟩

/-- Every register R1400 leaves unspecified (R128). -/
def RegName.all : List RegName :=
  let regs : List Reg8 := [.a, .b, .c, .d, .e, .h, .l]
  let flags : List Flag := [.s, .z, .y, .h, .x, .pv, .n, .c]
  regs.map .main ++ flags.map .flag ++ regs.map .shadow ++ flags.map .shadowFlag ++
    [.half .ix .high, .half .ix .low, .half .iy .high, .half .iy .low, .sp]

/-- What counts as unwritten right after a reset: under DRAW every register holds a value at once (R130, R1400). -/
def unwrittenAtReset : ResetRegs → List RegName
  | .draw => []
  | .faultOnRead => RegName.all

/-- The machine right after power-on (70 R1400, R1401), every parameter at its default. The registers R1400 names hold its values; the others hold the values
of logs 1 to 8, 16 and 17. -/
def State.reset : State where
  regs := RegFile.unspecified
  shadow := RegFile.unspecified
  ix := 0
  iy := 0
  sp := 0
  pc := 0
  i := 0
  r := 0
  iff1 := false
  iff2 := false
  im := .im0
  halted := false
  intInhibit := .none
  nmiPending := false
  intLine := false
  intData := 0
  fetching := none
  mem := []
  events := []
  cycles := 0
  ram := []
  ports := none
  draws := 0
  params := Config.defaultParams
  unwritten := []

/-- Power-on with the parameters at another setting (00_scope R7). -/
def State.powerOn (p : Params) : State := { State.reset with params := p, unwritten := unwrittenAtReset p.resetRegs }

end Sys2Proof.Machine
end

