-- ==== Sys2Proof/Machine/Ops.lean ====
section
/-! DEFINITION. The named operations over registers, memory, ports, stack and fetch (00_scope R10), taking an interrupt
(60 R1320-R1325), returning from one (46 R1030, R1031), and reset as the host's action (70 R1401). -/

namespace Sys2Proof.Machine

/-- What a step or a meaning answers. -/
abbrev Result := Host.Outcome State Fault Refusal

/-! ## One update per field -/

def State.setRegs (s : State) (v : RegFile) : State := { s with regs := v }
def State.setShadow (s : State) (v : RegFile) : State := { s with shadow := v }
def State.setIx (s : State) (v : Word) : State := { s with ix := v }
def State.setIy (s : State) (v : Word) : State := { s with iy := v }
def State.setSp (s : State) (v : Word) : State := { s with sp := v }
def State.setPc (s : State) (v : Word) : State := { s with pc := v }
def State.setI (s : State) (v : Byte) : State := { s with i := v }
def State.setR (s : State) (v : Byte) : State := { s with r := v }
def State.setIff1 (s : State) (v : Bool) : State := { s with iff1 := v }
def State.setIff2 (s : State) (v : Bool) : State := { s with iff2 := v }
def State.setIm (s : State) (v : IntMode) : State := { s with im := v }
def State.setHalted (s : State) (v : Bool) : State := { s with halted := v }
def State.setInhibit (s : State) (v : IntInhibit) : State := { s with intInhibit := v }
def State.setNmi (s : State) (v : Bool) : State := { s with nmiPending := v }
def State.setFetching (s : State) (v : Option Context) : State := { s with fetching := v }
def State.setMem (s : State) (v : List Host.Cell) : State := { s with mem := v }
def State.setDraws (s : State) (v : Nat) : State := { s with draws := v }
def State.setUnwritten (s : State) (v : List RegName) : State := { s with unwritten := v }

/-- Record an event (20_memory R209). -/
def State.emit (s : State) (e : Event) : State := { s with events := s.events ++ [e] }

/-- Add T-states to the count this step returns (70 R1440). -/
def State.tick (s : State) (n : Nat) : State := { s with cycles := s.cycles + n }

/-! ## Registers (R101-R105) -/

/-- Read an 8-bit register (R302). -/
def RegFile.get (g : RegFile) : Reg8 → Byte
  | .b => g.b
  | .c => g.c
  | .d => g.d
  | .e => g.e
  | .h => g.h
  | .l => g.l
  | .a => g.a

/-- Write an 8-bit register (R302). -/
def RegFile.set (g : RegFile) (r : Reg8) (v : Byte) : RegFile :=
  match r with
  | .b => { g with b := v }
  | .c => { g with c := v }
  | .d => { g with d := v }
  | .e => { g with e := v }
  | .h => { g with h := v }
  | .l => { g with l := v }
  | .a => { g with a := v }

/-- `BC = B:C` (R102). -/
def RegFile.bc (g : RegFile) : Word := word g.b g.c
/-- `DE = D:E` (R102). -/
def RegFile.de (g : RegFile) : Word := word g.d g.e
/-- `HL = H:L` (R102). -/
def RegFile.hl (g : RegFile) : Word := word g.h g.l
/-- `AF = A:F` (R101). -/
def RegFile.af (g : RegFile) : Word := word g.a g.f

def RegFile.setBc (g : RegFile) (v : Word) : RegFile := { g with b := hiByte v, c := loByte v }
def RegFile.setDe (g : RegFile) (v : Word) : RegFile := { g with d := hiByte v, e := loByte v }
def RegFile.setHl (g : RegFile) (v : Word) : RegFile := { g with h := hiByte v, l := loByte v }
def RegFile.setAf (g : RegFile) (v : Word) : RegFile := { g with a := hiByte v, f := loByte v }

def State.getReg (s : State) (r : Reg8) : Byte := s.regs.get r
def State.setReg (s : State) (r : Reg8) (v : Byte) : State := s.setRegs (s.regs.set r v)
def State.setA (s : State) (v : Byte) : State := s.setRegs { s.regs with a := v }
def State.setF (s : State) (v : Byte) : State := s.setRegs { s.regs with f := v }
def State.setB (s : State) (v : Byte) : State := s.setRegs { s.regs with b := v }
def State.setBc (s : State) (v : Word) : State := s.setRegs (s.regs.setBc v)
def State.setDe (s : State) (v : Word) : State := s.setRegs (s.regs.setDe v)
def State.setHl (s : State) (v : Word) : State := s.setRegs (s.regs.setHl v)
def State.setAf (s : State) (v : Word) : State := s.setRegs (s.regs.setAf v)

/-- Read the index register a prefix selects (R104, R320). -/
def State.getIdx (s : State) : Idx → Word
  | .ix => s.ix
  | .iy => s.iy

/-- Write the index register a prefix selects (R104, R320). -/
def State.setIdx (s : State) (x : Idx) (v : Word) : State :=
  match x with
  | .ix => s.setIx v
  | .iy => s.setIy v

/-- `RefreshInc` (R10, R123): R[6:0] counts modulo 128 and R[7] stays. -/
def refreshed (r : Byte) : Byte := BitVec.ofNat 8 (r.toNat / 128 * 128 + (r.toNat + 1) % 128)

def State.refresh (s : State) : State := s.setR (refreshed s.r)

/-! ## Memory and ports (R200, R201, R209, R219) -/

/-- This address is assumed to be plain RAM (R219, log 5). -/
def State.isRam (s : State) (a : Word) : Bool :=
  s.ram.any fun g => decide (g.lo.toNat ≤ a.toNat ∧ a.toNat ≤ g.hi.toNat)

/-- The byte a `MemRead` of this address returns now (R213, R219): the last byte written where memory is plain RAM, else the
host's answer, a free value. -/
def State.memVal (s : State) (a : Word) : Byte :=
  if s.isRam a then memRead s.mem a.toNat else Config.hostByte s.draws a

/-- Use up the free value a read of this address took, if it took one. -/
def State.touch (s : State) (a : Word) : State :=
  if s.isRam a then s else s.setDraws (s.draws + 1)

/-- The state after `MemRead(a, 1)` (R10), whose value is `s.memVal a`. -/
def State.readDone (s : State) (a : Word) : State := (s.touch a).emit (.read a (s.memVal a))

/-- `MemWrite(a, 1, v)` (R10). Outside plain RAM the byte goes to the host alone (R219). -/
def State.store (s : State) (a : Word) (v : Byte) : State :=
  (if s.isRam a then s.setMem (memWrite s.mem a.toNat v) else s).emit (.write a v)

/-- The word `MemRead(a, 2)` returns (R10, R203): low byte first. -/
def State.memVal2 (s : State) (a : Word) : Word := word ((s.readDone a).memVal (a + 1)) (s.memVal a)

/-- The state after `MemRead(a, 2)` (R10, R210). -/
def State.readDone2 (s : State) (a : Word) : State := (s.readDone a).readDone (a + 1)

/-- `MemWrite(a, 2, v)` (R10, R210): low byte first. -/
def State.store2 (s : State) (a v : Word) : State := (s.store a (loByte v)).store (a + 1) (hiByte v)

/-- What `Ports(p = v, …)` answers: v at a port it names, 0xFF at any other (R1461). -/
def portAnswer : List (Word × Byte) → Word → Byte
  | [], _ => 0xFF
  | (q, v) :: rest, p => if q = p then v else portAnswer rest p

/-- The byte an `IoRead` of this port returns now (R201, R219): the host's answer, a free value unless a device model is assumed. -/
def State.portVal (s : State) (p : Word) : Byte :=
  match s.ports with
  | none => Config.portByte s.draws p
  | some l => portAnswer l p

/-- How many free values an `IoRead` uses. -/
def State.portCost (s : State) : Nat := if s.ports.isNone then 1 else 0

/-- The state after `IoRead(p)`, whose value is `s.portVal p`. -/
def State.inDone (s : State) (p : Word) : State := (s.setDraws (s.draws + s.portCost)).emit (.input p (s.portVal p))

/-- `IoWrite(p, v)` (R10, R201). -/
def State.out (s : State) (p : Word) (v : Byte) : State := s.emit (.output p v)

/-! ## `draw()` under a parameter at ANY (R7, R10) -/

/-- The flag bit the k-th next `draw()` gives. -/
def State.drawnBit (s : State) (k : Nat) : Bool := Config.drawBit (s.draws + k)

/-- The byte the next `draw()` gives. -/
def State.drawnByte (s : State) : Byte := Config.drawByte s.draws

/-- Use up n free values. -/
def State.drawn (s : State) (n : Nat) : State := s.setDraws (s.draws + n)

/-! ## Stack (R10, R105) -/

/-- `Push16(v)`: SP - 1, high byte, SP - 1, low byte. -/
def State.push (s : State) (v : Word) : State :=
  let s1 := (s.setSp (s.sp - 1)).store (s.sp - 1) (hiByte v)
  (s1.setSp (s1.sp - 1)).store (s1.sp - 1) (loByte v)

/-- The word `Pop16()` returns. -/
def State.popVal (s : State) : Word := s.memVal2 s.sp

/-- The state after `Pop16()`. -/
def State.popDone (s : State) : State := (s.readDone2 s.sp).setSp (s.sp + 2)

/-! ## Fetch (R10, R330) -/

/-- `FetchOpcode()`: an M1 read, with its R increment. -/
def State.fetchOpcode (s : State) : State :=
  (((s.touch s.pc).emit (.fetch s.pc (s.memVal s.pc) true)).setPc (s.pc + 1)).refresh

/-- `FetchByte()`: an operand read. -/
def State.fetchByte (s : State) : State :=
  ((s.touch s.pc).emit (.fetch s.pc (s.memVal s.pc) false)).setPc (s.pc + 1)

/-! ## Returns (46 R1012, R1030, R1031; 60 R1326) -/

/-- `PC <- Pop16()`. -/
def State.popPc (s : State) : State := s.popDone.setPc s.popVal

/-- RETN (R1031): pop PC and restore IFF1 from IFF2. -/
def State.returnNmi (s : State) : State := s.popPc.setIff1 s.iff2

/-- RETI (R1030): pop PC, copy IFF2 to IFF1 under RETI_RESTORES_IFF, signal the daisy chain. -/
def State.returnInt (s : State) : State :=
  let t := if s.params.retiRestoresIff then s.popPc.setIff1 s.iff2 else s.popPc
  t.emit .retiSignal

/-! ## RESET_REGS = FAULT_ON_READ (10_state R130) -/

/-- The first of these registers whose read faults: unwritten, under FAULT_ON_READ. -/
def State.unwrittenRead (s : State) (l : List RegName) : Option RegName :=
  match s.params.resetRegs with
  | .draw => none
  | .faultOnRead => l.find? fun n => decide (n ∈ s.unwritten)

/-- Read these registers, then go on with r: the fault names the first that is unwritten. The spec itself stops here under FAULT_ON_READ
(R130, 60 R1301, 93 part 1 item 1), and only there: under DRAW, the default, `unwrittenRead` is `none`. -/
def checkReads (s : State) (l : List RegName) (r : Result) : Result :=
  match s.unwrittenRead l with
  | none => r
  | some n => .fault (.readBeforeWrite n)

/-! ## Taking an interrupt (60 R1320-R1325). Its push reads SP (R1403). -/

/-- The effects every acceptance begins with (R1320): leave Halted, increment R once, report the acknowledge. -/
def State.acceptBegin (s : State) (k : AckKind) : State := ((s.setHalted false).refresh).emit (.intAck k)

/-- IFF2 after an acceptance: an INT clears it (R1321), an NMI leaves it as it is (R1322, R120) or, by the model's own parameter, puts IFF1
into it (R1327). The spec's files differ here and no ruling settles it: DESIGN CHOICE, both modelled (log 16). -/
def State.acceptedIff2 (s : State) : AckKind → Bool
  | .nmi =>
    match s.params.nmiIff2 with
    | .keep => s.iff2
    | .fromIff1 => s.iff1
  | _ => false

/-- The acceptance itself, shared by every kind: the common effects, IFF1 cleared, IFF2 as `acceptedIff2` says (log 16), PC pushed. -/
def State.acceptPush (s : State) (k : AckKind) : State :=
  let t := ((s.acceptBegin k).setIff1 false).setIff2 (s.acceptedIff2 k)
  let u := match k with
    | .nmi => t.setNmi false
    | _ => t
  u.push s.pc

/-- `AcceptNMI()` (R1322). -/
def acceptNmi (s : State) : Result := checkReads s [.sp] (.next (((s.acceptPush .nmi).setPc 0x0066).tick 11))

/-- IM1 acceptance (R1324). -/
def acceptIm1 (s : State) : Result := checkReads s [.sp] (.next (((s.acceptPush .im1).setPc 0x0038).tick 13))

/-- IM2 acceptance (R1323): push, then read the handler address from the vector `I:int_data`. -/
def acceptIm2 (s : State) : Result :=
  let t := s.acceptPush .im2
  let vec := word s.i s.intData
  checkReads s [.sp] (.next (((t.readDone2 vec).setPc (t.memVal2 vec)).tick 19))

/-- IM0 acceptance (R1325): an RST byte is executed, any other is refused (R1330). -/
def acceptIm0 (s : State) : Result :=
  if s.intData &&& 0xC7 = 0xC7 then
    checkReads s [.sp] (.next (((s.acceptPush .im0).setPc (word 0 (s.intData &&& 0x38))).tick 13))
  else .refused .im0NotRst

/-- `AcceptINT()` (R1321). -/
def acceptInt (s : State) : Result :=
  match s.im with
  | .im0 => acceptIm0 s
  | .im1 => acceptIm1 s
  | .im2 => acceptIm2 s

/-- A halted step (47 R1102). -/
def haltedStep (s : State) : Result := .next (s.refresh.tick 4)

/-! ## The host's actions between steps (60 R1450; they are no steps) -/

/-- The registers R1400 leaves unspecified, after a reset of a running machine: drawn afresh (R1401, log 1). -/
def drawnRegs (n k : Nat) : RegFile where
  a := hiByte (Config.resetWord n k)
  f := loByte (Config.resetWord n k)
  b := hiByte (Config.resetWord n (k + 1))
  c := loByte (Config.resetWord n (k + 1))
  d := hiByte (Config.resetWord n (k + 2))
  e := loByte (Config.resetWord n (k + 2))
  h := hiByte (Config.resetWord n (k + 3))
  l := loByte (Config.resetWord n (k + 3))

/-- Reset as the host's action on a running machine (R1400-R1402): it touches neither memory nor the host's inputs. What it leaves
unspecified is drawn, and under FAULT_ON_READ counts as unwritten (R130). -/
def State.hostReset (s : State) : State :=
  { s with
    regs := drawnRegs s.draws 0
    shadow := drawnRegs s.draws 4
    ix := Config.resetWord s.draws 8
    iy := Config.resetWord s.draws 9
    sp := Config.resetWord s.draws 10
    pc := 0
    i := 0
    r := 0
    iff1 := false
    iff2 := false
    im := .im0
    halted := false
    intInhibit := .none
    nmiPending := false
    fetching := none
    events := []
    cycles := 0
    draws := s.draws + 1
    unwritten := unwrittenAtReset s.params.resetRegs }

/-- The host drives INT and its data byte (R126). -/
def State.hostInt (s : State) (line : Bool) (v : Byte) : State := { s with intLine := line, intData := v }

/-- The host sets the NMI latch (R126). -/
def State.hostNmi (s : State) : State := { s with nmiPending := true }

/-- The host writes memory between steps (R218). -/
def State.hostPoke (s : State) (a : Word) (v : Byte) : State := { s with mem := memWrite s.mem a.toNat v }

end Sys2Proof.Machine
end

