-- ==== Sys2Proof/Machine/Flags.lean ====
section
/-! DEFINITION. The flag byte (10_state R110) and the flag algebra (41_alu8 R500-R506, 42_alu16 R600, 43_block R701-R703,
45_bit R900), each formula on exact integers, narrowed once. -/

namespace Sys2Proof.Machine

/-! ## The flag byte (R110) -/

def sFlag (f : Byte) : Bool := f.getLsbD 7
def zFlag (f : Byte) : Bool := f.getLsbD 6
def yFlag (f : Byte) : Bool := f.getLsbD 5
def hFlag (f : Byte) : Bool := f.getLsbD 4
def xFlag (f : Byte) : Bool := f.getLsbD 3
def pvFlag (f : Byte) : Bool := f.getLsbD 2
def nFlag (f : Byte) : Bool := f.getLsbD 1
def cFlag (f : Byte) : Bool := f.getLsbD 0

/-- The flag byte with these bits, in the order of R110. -/
def mkFlags (s z y h x pv n c : Bool) : Byte :=
  BitVec.ofNat 8 (128 * s.toNat + 64 * z.toNat + 32 * y.toNat + 16 * h.toNat + 8 * x.toNat + 4 * pv.toNat + 2 * n.toNat + c.toNat)

/-- `parity(v)`: true when v has an even number of one bits (R10, R506). -/
def parity (v : Byte) : Bool :=
  !(v.getLsbD 0 ^^ v.getLsbD 1 ^^ v.getLsbD 2 ^^ v.getLsbD 3 ^^ v.getLsbD 4 ^^ v.getLsbD 5 ^^ v.getLsbD 6 ^^ v.getLsbD 7)

/-- The flag byte whose S, Z, Y and X are those of `sz(r)` (R500). -/
def szFlags (r : Byte) (h pv n c : Bool) : Byte :=
  mkFlags (r.getLsbD 7) (decide (r = 0)) (r.getLsbD 5) h (r.getLsbD 3) pv n c

/-- A byte result with the whole flag byte that goes with it. -/
structure Alu8 where
  val : Byte
  flags : Byte
  deriving DecidableEq, Repr

/-! ## 8-bit routines (R501-R505) -/

/-- `addFlags8` (R501). -/
def addFlags8 (a b : Byte) (cin : Bool) : Alu8 :=
  let t := a.toNat + b.toNat + cin.toNat
  let r : Byte := BitVec.ofNat 8 t
  let h := decide (a.toNat % 16 + b.toNat % 16 + cin.toNat > 0xF)
  let v := a.getLsbD 7 == b.getLsbD 7 && r.getLsbD 7 != a.getLsbD 7
  ⟨r, szFlags r h v false (decide (t > 0xFF))⟩

/-- `subFlags8` (R502). -/
def subFlags8 (a b : Byte) (cin : Bool) : Alu8 :=
  let t : Int := (a.toNat : Int) - b.toNat - cin.toNat
  let r : Byte := BitVec.ofInt 8 t
  let h := decide (a.toNat % 16 < b.toNat % 16 + cin.toNat)
  let v := a.getLsbD 7 != b.getLsbD 7 && r.getLsbD 7 != a.getLsbD 7
  ⟨r, szFlags r h v true (decide (t < 0))⟩

/-- `logicFlags8(r, h)` (R503). -/
def logicFlags8 (r : Byte) (h : Bool) : Byte := szFlags r h (parity r) false false

/-- `rotateFlags8(r, co)` (R504). -/
def rotateFlags8 (r : Byte) (co : Bool) : Byte := szFlags r false (parity r) false co

/-- A flag byte with its C replaced (R505). -/
def withC (f : Byte) (c : Bool) : Byte :=
  mkFlags (sFlag f) (zFlag f) (yFlag f) (hFlag f) (xFlag f) (pvFlag f) (nFlag f) c

/-- `incFlags8(v, f_old)` with its result (R505). -/
def inc8 (v f : Byte) : Alu8 := let p := addFlags8 v 1 false; ⟨p.val, withC p.flags (cFlag f)⟩

/-- `decFlags8(v, f_old)` with its result (R505). -/
def dec8 (v f : Byte) : Alu8 := let p := subFlags8 v 1 false; ⟨p.val, withC p.flags (cFlag f)⟩

/-- `CP s` (R517): the flags of the subtraction, Y and X from the operand. -/
def cpFlags (a s : Byte) : Byte :=
  let f := (subFlags8 a s false).flags
  mkFlags (sFlag f) (zFlag f) (s.getLsbD 5) (hFlag f) (s.getLsbD 3) (pvFlag f) (nFlag f) (cFlag f)

/-- `LD A,I` and `LD A,R` (R414). -/
def ldAIrFlags (v f : Byte) (pv : Bool) : Byte := szFlags v false pv false (cFlag f)

/-- DAA (R530). -/
def daa (a f : Byte) : Alu8 :=
  let lo := a.toNat % 16
  let c := cFlag f || decide (a.toNat > 0x99)
  let diff : Byte := (if c then 0x60 else 0) + (if hFlag f || decide (lo > 9) then 0x06 else 0)
  let r := if nFlag f then a - diff else a + diff
  let h := if nFlag f then hFlag f && decide (lo < 6) else decide (lo > 9)
  ⟨r, szFlags r h (parity r) (nFlag f) c⟩

/-- CPL (R531), `r` the new A. -/
def cplFlags (r f : Byte) : Byte :=
  mkFlags (sFlag f) (zFlag f) (r.getLsbD 5) true (r.getLsbD 3) (pvFlag f) true (cFlag f)

/-- CCF (R533) with Y and X given. -/
def ccfFlags (f : Byte) (y x : Bool) : Byte :=
  mkFlags (sFlag f) (zFlag f) y (cFlag f) x (pvFlag f) false (!cFlag f)

/-- SCF (R534) with Y and X given. -/
def scfFlags (f : Byte) (y x : Bool) : Byte := mkFlags (sFlag f) (zFlag f) y false x (pvFlag f) false true

/-- The accumulator rotates (R800): S, Z, PV kept, Y and X from the new A. -/
def accRotFlags (r f : Byte) (co : Bool) : Byte :=
  mkFlags (sFlag f) (zFlag f) (r.getLsbD 5) false (r.getLsbD 3) (pvFlag f) false co

/-! ## Rotates and shifts (R800-R817) -/

/-- A rotated byte and the bit that left it. -/
structure Rot where
  val : Byte
  co : Bool
  deriving DecidableEq, Repr

/-- `trunc_8(v << 1) | b`. -/
def shlIn (v : Byte) (b : Bool) : Byte := BitVec.ofNat 8 (v.toNat * 2 + b.toNat)

/-- `(v >> 1) | (b << 7)`. -/
def shrIn (v : Byte) (b : Bool) : Byte := BitVec.ofNat 8 (v.toNat / 2 + 128 * b.toNat)

def rlcOp (v : Byte) : Rot := ⟨shlIn v (v.getLsbD 7), v.getLsbD 7⟩
def rrcOp (v : Byte) : Rot := ⟨shrIn v (v.getLsbD 0), v.getLsbD 0⟩
def rlOp (v : Byte) (c : Bool) : Rot := ⟨shlIn v c, v.getLsbD 7⟩
def rrOp (v : Byte) (c : Bool) : Rot := ⟨shrIn v c, v.getLsbD 0⟩
def slaOp (v : Byte) : Rot := ⟨shlIn v false, v.getLsbD 7⟩
def sraOp (v : Byte) : Rot := ⟨shrIn v (v.getLsbD 7), v.getLsbD 0⟩
def sllOp (v : Byte) : Rot := ⟨shlIn v true, v.getLsbD 7⟩
def srlOp (v : Byte) : Rot := ⟨shrIn v false, v.getLsbD 0⟩

/-! ## 16-bit arithmetic (R600) -/

/-- The result of `add16` or `sub16` with its H, C and V. -/
structure Alu16 where
  val : Word
  h : Bool
  c : Bool
  v : Bool
  deriving DecidableEq, Repr

def add16 (a b : Word) (cin : Bool) : Alu16 :=
  let t := a.toNat + b.toNat + cin.toNat
  let r : Word := BitVec.ofNat 16 t
  ⟨r, decide (a.toNat % 4096 + b.toNat % 4096 + cin.toNat > 0xFFF), decide (t > 0xFFFF),
    a.getLsbD 15 == b.getLsbD 15 && r.getLsbD 15 != a.getLsbD 15⟩

def sub16 (a b : Word) (cin : Bool) : Alu16 :=
  let t : Int := (a.toNat : Int) - b.toNat - cin.toNat
  let r : Word := BitVec.ofInt 16 t
  ⟨r, decide (a.toNat % 4096 < b.toNat % 4096 + cin.toNat), decide (t < 0),
    a.getLsbD 15 != b.getLsbD 15 && r.getLsbD 15 != a.getLsbD 15⟩

/-- All eight flags of ADC HL and SBC HL (R602, R603). -/
def flags16 (p : Alu16) (n : Bool) : Byte :=
  mkFlags (p.val.getLsbD 15) (decide (p.val = 0)) (p.val.getLsbD 13) p.h (p.val.getLsbD 11) p.v n p.c

/-- The flags of ADD HL and ADD IXY (R601): S, Z, PV kept. -/
def addFlags16 (p : Alu16) (f : Byte) : Byte :=
  mkFlags (sFlag f) (zFlag f) (p.val.getLsbD 13) p.h (p.val.getLsbD 11) (pvFlag f) false p.c

/-! ## Block instructions (R701-R703) -/

/-- The transfer forms (R701): `more` is BC ≠ 0 after the decrement. -/
def ldBlockFlags (a v f : Byte) (more : Bool) : Byte :=
  let n := v + a
  mkFlags (sFlag f) (zFlag f) (n.getLsbD 1) false (n.getLsbD 3) more false (cFlag f)

/-- The search forms (R702). -/
def cpBlockFlags (a v f : Byte) (more : Bool) : Byte :=
  let p := subFlags8 a v false
  let n := p.val - (if hFlag p.flags then 1 else 0)
  mkFlags (sFlag p.flags) (zFlag p.flags) (n.getLsbD 1) (hFlag p.flags) (n.getLsbD 3) more true (cFlag f)

/-- The I/O forms (R703): b after the decrement, k the 9-bit sum. -/
def ioBlockFlags (v b : Byte) (k : Nat) : Byte :=
  let big := decide (k > 0xFF)
  mkFlags (b.getLsbD 7) (decide (b = 0)) (b.getLsbD 5) big (b.getLsbD 3) (parity (BitVec.ofNat 8 (k % 8) ^^^ b)) (v.getLsbD 7) big

/-- Y and X replaced by drawn bits (R713). -/
def withYX (f : Byte) (y x : Bool) : Byte :=
  mkFlags (sFlag f) (zFlag f) y (hFlag f) x (pvFlag f) (nFlag f) (cFlag f)

/-- Y, X, H and PV replaced by drawn bits (R713, the I/O repeats). -/
def withYXHP (f : Byte) (y x h pv : Bool) : Byte :=
  mkFlags (sFlag f) (zFlag f) y h x pv (nFlag f) (cFlag f)

/-! ## BIT (R900) -/

/-- `bitFlags(b, v, xy)`. -/
def bitFlags (b : BitVec 3) (v xy f : Byte) : Byte :=
  let z := !v.getLsbD b.toNat
  mkFlags (b == 7 && v.getLsbD 7) z (xy.getLsbD 5) true (xy.getLsbD 3) z false (cFlag f)

/-- `v | (1 << b)` (R904). -/
def setBit (b : BitVec 3) (v : Byte) : Byte := v ||| ((1 : Byte) <<< b.toNat)

/-- `v & ~(1 << b)` (R908). -/
def resBit (b : BitVec 3) (v : Byte) : Byte := v &&& ~~~((1 : Byte) <<< b.toNat)

end Sys2Proof.Machine
end

