-- ==== Sys2Proof/Machine/Operands.lean ====
section
/-! DEFINITION. The operand forms of 30_encoding R302-R313 and R331: what each reads, where each writes, and the conditions. A
read has two halves: the value it gives, and the state after the access (its event and the free value it may use). -/

namespace Sys2Proof.Machine

/-- `sext_16` (R8). -/
def sext16 (d : Byte) : Word := d.signExtend 16

/-- `EA = trunc_16(IXY + sext_16(d))` (R313). -/
def State.ea (s : State) (x : Idx) (d : Byte) : Word := s.getIdx x + sext16 d

/-- A relative target `trunc_16(PC + sext_16(e))`, PC after the instruction (R313). -/
def State.rel (s : State) (e : Byte) : Word := s.pc + sext16 e

/-! ## `r[z] or (HL)` (R302, R331) -/

def State.mVal (s : State) (m : RegM) : Byte :=
  match m with
  | .reg r => s.getReg r
  | .hl => s.memVal s.regs.hl

def State.mReadDone (s : State) (m : RegM) : State :=
  match m with
  | .reg _ => s
  | .hl => s.readDone s.regs.hl

def State.mWrite (s : State) (m : RegM) (v : Byte) : State :=
  match m with
  | .reg r => s.setReg r v
  | .hl => s.store s.regs.hl v

/-- One count for a register, another for memory at HL. -/
def mPick (m : RegM) (forReg forHl : Nat) : Nat :=
  match m with
  | .reg _ => forReg
  | .hl => forHl

/-! ## IXYH and IXYL (R104, R331) -/

def State.getHalf (s : State) (x : Idx) (k : Half) : Byte :=
  match k with
  | .high => hiByte (s.getIdx x)
  | .low => loByte (s.getIdx x)

/-- Write one half; the other is unchanged (R419, R523). -/
def State.setHalf (s : State) (x : Idx) (k : Half) (v : Byte) : State :=
  match k with
  | .high => s.setIdx x (word v (loByte (s.getIdx x)))
  | .low => s.setIdx x (word (hiByte (s.getIdx x)) v)

/-- The operands of R418. -/
def State.getRegX (s : State) (x : Idx) : RegX → Byte
  | .b => s.regs.b
  | .c => s.regs.c
  | .d => s.regs.d
  | .e => s.regs.e
  | .xh => s.getHalf x .high
  | .xl => s.getHalf x .low
  | .a => s.regs.a

def State.setRegX (s : State) (x : Idx) (r : RegX) (v : Byte) : State :=
  match r with
  | .b => s.setReg .b v
  | .c => s.setReg .c v
  | .d => s.setReg .d v
  | .e => s.setReg .e v
  | .xh => s.setHalf x .high v
  | .xl => s.setHalf x .low v
  | .a => s.setReg .a v

/-! ## Pairs (R303, R304, R604) -/

def State.getPair (s : State) : Pair → Word
  | .bc => s.regs.bc
  | .de => s.regs.de
  | .hl => s.regs.hl
  | .sp => s.sp

def State.setPair (s : State) (p : Pair) (v : Word) : State :=
  match p with
  | .bc => s.setBc v
  | .de => s.setDe v
  | .hl => s.setHl v
  | .sp => s.setSp v

def State.getPairQ (s : State) : PairQ → Word
  | .bc => s.regs.bc
  | .de => s.regs.de
  | .hl => s.regs.hl
  | .af => s.regs.af

def State.setPairQ (s : State) (q : PairQ) (v : Word) : State :=
  match q with
  | .bc => s.setBc v
  | .de => s.setDe v
  | .hl => s.setHl v
  | .af => s.setAf v

def State.getPairP (s : State) (x : Idx) : PairP → Word
  | .bc => s.regs.bc
  | .de => s.regs.de
  | .ixy => s.getIdx x
  | .sp => s.sp

/-! ## Conditions (R312) and ports (R201) -/

def condHolds (cc : Cond) (f : Byte) : Bool :=
  match cc with
  | .nz => !zFlag f
  | .z => zFlag f
  | .nc => !cFlag f
  | .c => cFlag f
  | .po => !pvFlag f
  | .pe => pvFlag f
  | .p => !sFlag f
  | .m => sFlag f

/-- `JR cc,e` uses the first four conditions (R305). -/
def jrCond : CondJr → Cond
  | .nz => .nz
  | .z => .z
  | .nc => .nc
  | .c => .c

/-- The port `A:n` of the immediate forms (R201). -/
def State.portAN (s : State) (n : Byte) : Word := word s.regs.a n

/-! ## The shared bodies of the 8-bit operations -/

/-- The eight ALU operations (R306). -/
inductive AluOp where
  | add | adc | sub | sbc | and | xor | or | cp
  deriving DecidableEq, Repr

/-- The new A and F of an ALU operation on A = a, F = f and the source v (R510-R517). -/
def aluOp (op : AluOp) (a v f : Byte) : Alu8 :=
  match op with
  | .add => addFlags8 a v false
  | .adc => addFlags8 a v (cFlag f)
  | .sub => subFlags8 a v false
  | .sbc => subFlags8 a v (cFlag f)
  | .and => ⟨a &&& v, logicFlags8 (a &&& v) true⟩
  | .xor => ⟨a ^^^ v, logicFlags8 (a ^^^ v) false⟩
  | .or => ⟨a ||| v, logicFlags8 (a ||| v) false⟩
  | .cp => ⟨a, cpFlags a v⟩

/-- Apply an ALU operation to A and F. -/
def State.alu (s : State) (op : AluOp) (v : Byte) : State :=
  let p := aluOp op s.regs.a v s.regs.f
  s.setRegs { s.regs with a := p.val, f := p.flags }

/-- `op s` with s = r[z] or (HL) (R507). -/
def State.aluM (s : State) (op : AluOp) (m : RegM) : State := (((s.mReadDone m).alu op (s.mVal m)).tick (mPick m 4 7))

/-- `op n` (R507). -/
def State.aluN (s : State) (op : AluOp) (n : Byte) : State := (s.alu op n).tick 7

/-- `op IXYH`, `op IXYL` (R507). -/
def State.aluXh (s : State) (op : AluOp) (x : Idx) (k : Half) : State := (s.alu op (s.getHalf x k)).tick 8

/-- `op (IXY+d)` (R507). -/
def State.aluXd (s : State) (op : AluOp) (x : Idx) (d : Byte) : State :=
  ((s.readDone (s.ea x d)).alu op (s.memVal (s.ea x d))).tick 19

/-- Read a byte of memory, write a byte computed from it to the same place (R210, R331): `w` is the byte written. -/
def State.rmw (s : State) (a : Word) (w : Byte) : State := (s.readDone a).store a w

end Sys2Proof.Machine
end

