-- ==== Sys2Proof/Machine/Alu16.lean ====
section
/-! DEFINITION. 42_alu16: 16-bit arithmetic (R600-R608). -/

namespace Sys2Proof.Machine

/-- `ADD HL,ss` (R601). -/
def execAddHlSs (p : Pair) (s : State) : Result :=
  let q := add16 s.regs.hl (s.getPair p) false
  .next (((s.setHl q.val).setF (addFlags16 q s.regs.f)).tick 11)

/-- `ADC HL,ss` (R602). -/
def execAdcHlSs (p : Pair) (s : State) : Result :=
  let q := add16 s.regs.hl (s.getPair p) (cFlag s.regs.f)
  .next (((s.setHl q.val).setF (flags16 q false)).tick 15)

/-- `SBC HL,ss` (R603). -/
def execSbcHlSs (p : Pair) (s : State) : Result :=
  let q := sub16 s.regs.hl (s.getPair p) (cFlag s.regs.f)
  .next (((s.setHl q.val).setF (flags16 q true)).tick 15)

/-- `ADD IXY,pp` (R604). -/
def execAddIxyPp (x : Idx) (p : PairP) (s : State) : Result :=
  let q := add16 (s.getIdx x) (s.getPairP x p) false
  .next (((s.setIdx x q.val).setF (addFlags16 q s.regs.f)).tick 15)

/-- `INC ss` (R605). -/
def execIncSs (p : Pair) (s : State) : Result := .next ((s.setPair p (s.getPair p + 1)).tick 6)

/-- `INC IXY` (R606). -/
def execIncIxy (x : Idx) (s : State) : Result := .next ((s.setIdx x (s.getIdx x + 1)).tick 10)

/-- `DEC ss` (R607). -/
def execDecSs (p : Pair) (s : State) : Result := .next ((s.setPair p (s.getPair p - 1)).tick 6)

/-- `DEC IXY` (R608). -/
def execDecIxy (x : Idx) (s : State) : Result := .next ((s.setIdx x (s.getIdx x - 1)).tick 10)

end Sys2Proof.Machine
end

