-- ==== Sys2Proof/Machine/Alu8.lean ====
section
/-! DEFINITION. 41_alu8: the eight ALU operations in their operand forms (R507, R510-R517), 8-bit INC and DEC (R520-R527), and
DAA, CPL, NEG, CCF, SCF (R530-R534). -/

namespace Sys2Proof.Machine

/-- `ADD A,s`, s = r[z] or (HL) (R510). -/
def execAddAS (m : RegM) (s : State) : Result := .next (s.aluM .add m)

/-- `ADD A,n` (R510). -/
def execAddAN (n : Byte) (s : State) : Result := .next (s.aluN .add n)

/-- `ADD A,IXYH`, `ADD A,IXYL` (R510). -/
def execAddAXh (x : Idx) (k : Half) (s : State) : Result := .next (s.aluXh .add x k)

/-- `ADD A,(IXY+d)` (R510). -/
def execAddAXd (x : Idx) (d : Byte) (s : State) : Result := .next (s.aluXd .add x d)

/-- `ADC A,s`, s = r[z] or (HL) (R511). -/
def execAdcAS (m : RegM) (s : State) : Result := .next (s.aluM .adc m)

/-- `ADC A,n` (R511). -/
def execAdcAN (n : Byte) (s : State) : Result := .next (s.aluN .adc n)

/-- `ADC A,IXYH`, `ADC A,IXYL` (R511). -/
def execAdcAXh (x : Idx) (k : Half) (s : State) : Result := .next (s.aluXh .adc x k)

/-- `ADC A,(IXY+d)` (R511). -/
def execAdcAXd (x : Idx) (d : Byte) (s : State) : Result := .next (s.aluXd .adc x d)

/-- `SUB s`, s = r[z] or (HL) (R512). -/
def execSubS (m : RegM) (s : State) : Result := .next (s.aluM .sub m)

/-- `SUB n` (R512). -/
def execSubN (n : Byte) (s : State) : Result := .next (s.aluN .sub n)

/-- `SUB IXYH`, `SUB IXYL` (R512). -/
def execSubXh (x : Idx) (k : Half) (s : State) : Result := .next (s.aluXh .sub x k)

/-- `SUB (IXY+d)` (R512). -/
def execSubXd (x : Idx) (d : Byte) (s : State) : Result := .next (s.aluXd .sub x d)

/-- `SBC A,s`, s = r[z] or (HL) (R513). -/
def execSbcAS (m : RegM) (s : State) : Result := .next (s.aluM .sbc m)

/-- `SBC A,n` (R513). -/
def execSbcAN (n : Byte) (s : State) : Result := .next (s.aluN .sbc n)

/-- `SBC A,IXYH`, `SBC A,IXYL` (R513). -/
def execSbcAXh (x : Idx) (k : Half) (s : State) : Result := .next (s.aluXh .sbc x k)

/-- `SBC A,(IXY+d)` (R513). -/
def execSbcAXd (x : Idx) (d : Byte) (s : State) : Result := .next (s.aluXd .sbc x d)

/-- `AND s`, s = r[z] or (HL) (R514). -/
def execAndS (m : RegM) (s : State) : Result := .next (s.aluM .and m)

/-- `AND n` (R514). -/
def execAndN (n : Byte) (s : State) : Result := .next (s.aluN .and n)

/-- `AND IXYH`, `AND IXYL` (R514). -/
def execAndXh (x : Idx) (k : Half) (s : State) : Result := .next (s.aluXh .and x k)

/-- `AND (IXY+d)` (R514). -/
def execAndXd (x : Idx) (d : Byte) (s : State) : Result := .next (s.aluXd .and x d)

/-- `XOR s`, s = r[z] or (HL) (R515). -/
def execXorS (m : RegM) (s : State) : Result := .next (s.aluM .xor m)

/-- `XOR n` (R515). -/
def execXorN (n : Byte) (s : State) : Result := .next (s.aluN .xor n)

/-- `XOR IXYH`, `XOR IXYL` (R515). -/
def execXorXh (x : Idx) (k : Half) (s : State) : Result := .next (s.aluXh .xor x k)

/-- `XOR (IXY+d)` (R515). -/
def execXorXd (x : Idx) (d : Byte) (s : State) : Result := .next (s.aluXd .xor x d)

/-- `OR s`, s = r[z] or (HL) (R516). -/
def execOrS (m : RegM) (s : State) : Result := .next (s.aluM .or m)

/-- `OR n` (R516). -/
def execOrN (n : Byte) (s : State) : Result := .next (s.aluN .or n)

/-- `OR IXYH`, `OR IXYL` (R516). -/
def execOrXh (x : Idx) (k : Half) (s : State) : Result := .next (s.aluXh .or x k)

/-- `OR (IXY+d)` (R516). -/
def execOrXd (x : Idx) (d : Byte) (s : State) : Result := .next (s.aluXd .or x d)

/-- `CP s`, s = r[z] or (HL) (R517). -/
def execCpS (m : RegM) (s : State) : Result := .next (s.aluM .cp m)

/-- `CP n` (R517). -/
def execCpN (n : Byte) (s : State) : Result := .next (s.aluN .cp n)

/-- `CP IXYH`, `CP IXYL` (R517). -/
def execCpXh (x : Idx) (k : Half) (s : State) : Result := .next (s.aluXh .cp x k)

/-- `CP (IXY+d)` (R517). -/
def execCpXd (x : Idx) (d : Byte) (s : State) : Result := .next (s.aluXd .cp x d)

/-! ## 8-bit increment and decrement (R520-R527) -/

/-- `INC r` (R520). -/
def execIncR (r : Reg8) (s : State) : Result :=
  let p := inc8 (s.getReg r) s.regs.f
  .next (((s.setReg r p.val).setF p.flags).tick 4)

/-- `INC (HL)` (R521). -/
def execIncHl (s : State) : Result :=
  let p := inc8 (s.memVal s.regs.hl) s.regs.f
  .next (((s.rmw s.regs.hl p.val).setF p.flags).tick 11)

/-- `INC (IXY+d)` (R522). -/
def execIncXd (x : Idx) (d : Byte) (s : State) : Result :=
  let p := inc8 (s.memVal (s.ea x d)) s.regs.f
  .next (((s.rmw (s.ea x d) p.val).setF p.flags).tick 23)

/-- `INC IXYH`, `INC IXYL` (R523). -/
def execIncXh (x : Idx) (k : Half) (s : State) : Result :=
  let p := inc8 (s.getHalf x k) s.regs.f
  .next (((s.setHalf x k p.val).setF p.flags).tick 8)

/-- `DEC r` (R524). -/
def execDecR (r : Reg8) (s : State) : Result :=
  let p := dec8 (s.getReg r) s.regs.f
  .next (((s.setReg r p.val).setF p.flags).tick 4)

/-- `DEC (HL)` (R525). -/
def execDecHl (s : State) : Result :=
  let p := dec8 (s.memVal s.regs.hl) s.regs.f
  .next (((s.rmw s.regs.hl p.val).setF p.flags).tick 11)

/-- `DEC (IXY+d)` (R526). -/
def execDecXd (x : Idx) (d : Byte) (s : State) : Result :=
  let p := dec8 (s.memVal (s.ea x d)) s.regs.f
  .next (((s.rmw (s.ea x d) p.val).setF p.flags).tick 23)

/-- `DEC IXYH`, `DEC IXYL` (R527). -/
def execDecXh (x : Idx) (k : Half) (s : State) : Result :=
  let p := dec8 (s.getHalf x k) s.regs.f
  .next (((s.setHalf x k p.val).setF p.flags).tick 8)

/-! ## Accumulator adjust and flag instructions (R530-R534) -/

/-- `DAA` (R530). -/
def execDaa (s : State) : Result :=
  let p := daa s.regs.a s.regs.f
  .next ((s.setRegs { s.regs with a := p.val, f := p.flags }).tick 4)

/-- `CPL` (R531). -/
def execCpl (s : State) : Result :=
  .next ((s.setRegs { s.regs with a := ~~~s.regs.a, f := cplFlags (~~~s.regs.a) s.regs.f }).tick 4)

/-- `NEG` (R532): 0 - A. -/
def execNeg (s : State) : Result :=
  let p := subFlags8 0 s.regs.a false
  .next ((s.setRegs { s.regs with a := p.val, f := p.flags }).tick 8)

/-- Y of SCF and CCF (R7 `SCF_CCF_XY`). -/
def State.scfY (s : State) : Bool :=
  match s.params.scfCcfXy with
  | .fromA => s.regs.a.getLsbD 5
  | .any => s.drawnBit 0

/-- X of SCF and CCF (R7 `SCF_CCF_XY`). -/
def State.scfX (s : State) : Bool :=
  match s.params.scfCcfXy with
  | .fromA => s.regs.a.getLsbD 3
  | .any => s.drawnBit 1

/-- The free values SCF and CCF use: two under ANY. -/
def State.scfDrawn (s : State) : State :=
  match s.params.scfCcfXy with
  | .fromA => s
  | .any => s.drawn 2

/-- `CCF` (R533). -/
def execCcf (s : State) : Result := .next ((s.scfDrawn.setF (ccfFlags s.regs.f s.scfY s.scfX)).tick 4)

/-- `SCF` (R534). -/
def execScf (s : State) : Result := .next ((s.scfDrawn.setF (scfFlags s.regs.f s.scfY s.scfX)).tick 4)

end Sys2Proof.Machine
end

