-- ==== Sys2Proof/Machine/Bit.lean ====
section
/-! DEFINITION. 45_bit: BIT, SET and RES (R900-R911). -/

namespace Sys2Proof.Machine

/-! ## BIT (R901-R903) -/

/-- `BIT b,r` (R901). -/
def execBitBR (b : BitVec 3) (r : Reg8) (s : State) : Result :=
  .next ((s.setF (bitFlags b (s.getReg r) (s.getReg r) s.regs.f)).tick 8)

/-- `BIT b,(HL)` (R902): Y and X from the byte tested, or drawn. -/
def execBitBHl (b : BitVec 3) (s : State) : Result :=
  let v := s.memVal s.regs.hl
  let t := s.readDone s.regs.hl
  match s.params.bitHlXy with
  | .operand => .next ((t.setF (bitFlags b v v s.regs.f)).tick 12)
  | .any => .next (((t.drawn 1).setF (bitFlags b v t.drawnByte s.regs.f)).tick 12)

/-- `BIT b,(IXY+d)` (R903): Y and X from the high byte of EA, or drawn. -/
def execBitBXd (x : Idx) (b : BitVec 3) (d : Byte) (s : State) : Result :=
  let v := s.memVal (s.ea x d)
  let t := s.readDone (s.ea x d)
  match s.params.bitIdxXy with
  | .addrHigh => .next ((t.setF (bitFlags b v (hiByte (s.ea x d)) s.regs.f)).tick 20)
  | .any => .next (((t.drawn 1).setF (bitFlags b v t.drawnByte s.regs.f)).tick 20)

/-! ## SET (R904-R907) -/

/-- `SET b,r` (R904). -/
def execSetBR (b : BitVec 3) (r : Reg8) (s : State) : Result := .next ((s.setReg r (setBit b (s.getReg r))).tick 8)

/-- `SET b,(HL)` (R905). -/
def execSetBHl (b : BitVec 3) (s : State) : Result :=
  .next ((s.rmw s.regs.hl (setBit b (s.memVal s.regs.hl))).tick 15)

/-- `SET b,(IXY+d)` (R906). -/
def execSetBXd (x : Idx) (b : BitVec 3) (d : Byte) (s : State) : Result :=
  .next ((s.rmw (s.ea x d) (setBit b (s.memVal (s.ea x d)))).tick 23)

/-- `SET b,(IXY+d),r` (R907): the result also into the real register. -/
def execSetBXdR (x : Idx) (b : BitVec 3) (d : Byte) (r : Reg8) (s : State) : Result :=
  let w := setBit b (s.memVal (s.ea x d))
  .next (((s.rmw (s.ea x d) w).setReg r w).tick 23)

/-! ## RES (R908-R911) -/

/-- `RES b,r` (R908). -/
def execResBR (b : BitVec 3) (r : Reg8) (s : State) : Result := .next ((s.setReg r (resBit b (s.getReg r))).tick 8)

/-- `RES b,(HL)` (R909). -/
def execResBHl (b : BitVec 3) (s : State) : Result :=
  .next ((s.rmw s.regs.hl (resBit b (s.memVal s.regs.hl))).tick 15)

/-- `RES b,(IXY+d)` (R910). -/
def execResBXd (x : Idx) (b : BitVec 3) (d : Byte) (s : State) : Result :=
  .next ((s.rmw (s.ea x d) (resBit b (s.memVal (s.ea x d)))).tick 23)

/-- `RES b,(IXY+d),r` (R911): the result also into the real register. -/
def execResBXdR (x : Idx) (b : BitVec 3) (d : Byte) (r : Reg8) (s : State) : Result :=
  let w := resBit b (s.memVal (s.ea x d))
  .next (((s.rmw (s.ea x d) w).setReg r w).tick 23)

end Sys2Proof.Machine
end

