-- ==== Sys2Proof/Machine/Block.lean ====
section
/-! DEFINITION. 43_block: block transfer, search and I/O (R700-R727). One step performs one unit; a repeating form that is to
repeat sets PC back to its ED byte (R710) and sets its flags per R713. -/

namespace Sys2Proof.Machine

/-- The direction of a block instruction (R700): `inc` is +1 for the I forms, -1 for the D forms. -/
inductive Dir where
  | up
  | down
  deriving DecidableEq, Repr

/-- `inc` as a word to add. -/
def Dir.delta : Dir → Word
  | .up => 1
  | .down => 0xFFFF

/-- `inc` as a byte to add. -/
def Dir.delta8 : Dir → Byte
  | .up => 1
  | .down => 0xFF

/-! ## One unit (R704, R708, R720, R724) -/

/-- One transfer unit (R704, R705). -/
def State.ldUnit (s : State) (k : Dir) : State :=
  let v := s.memVal s.regs.hl
  let t := (s.readDone s.regs.hl).store s.regs.de v
  let g := ((s.regs.setHl (s.regs.hl + k.delta)).setDe (s.regs.de + k.delta)).setBc (s.regs.bc - 1)
  t.setRegs { g with f := ldBlockFlags s.regs.a v s.regs.f (decide (s.regs.bc - 1 ≠ 0)) }

/-- One search unit (R708, R709). -/
def State.cpUnit (s : State) (k : Dir) : State :=
  let v := s.memVal s.regs.hl
  let g := (s.regs.setHl (s.regs.hl + k.delta)).setBc (s.regs.bc - 1)
  (s.readDone s.regs.hl).setRegs { g with f := cpBlockFlags s.regs.a v s.regs.f (decide (s.regs.bc - 1 ≠ 0)) }

/-- One input unit (R720, R721): the port is BC before B is decremented. -/
def State.inUnit (s : State) (k : Dir) : State :=
  let v := s.portVal s.regs.bc
  let t := (s.inDone s.regs.bc).store s.regs.hl v
  let b := s.regs.b - 1
  let sum := v.toNat + (s.regs.c + k.delta8).toNat
  let g := s.regs.setHl (s.regs.hl + k.delta)
  t.setRegs { g with b := b, f := ioBlockFlags v b sum }

/-- One output unit (R724, R725): the port is BC after B is decremented; the sum takes L after its change. -/
def State.outUnit (s : State) (k : Dir) : State :=
  let v := s.memVal s.regs.hl
  let b := s.regs.b - 1
  let t := (s.readDone s.regs.hl).out (word b s.regs.c) v
  let g := s.regs.setHl (s.regs.hl + k.delta)
  t.setRegs { g with b := b, f := ioBlockFlags v b (v.toNat + g.l.toNat) }

/-! ## The repeat mechanism (R710, R713) -/

/-- R713 for the transfer and search repeats: Y and X drawn under ANY. -/
def State.repeatYX (s : State) : State :=
  match s.params.blockRepeatFlags with
  | .classic => s
  | .any => (s.drawn 2).setF (withYX s.regs.f (s.drawnBit 0) (s.drawnBit 1))

/-- R713 for the I/O repeats: Y, X, H and PV drawn under ANY. -/
def State.repeatYXHP (s : State) : State :=
  match s.params.blockRepeatFlags with
  | .classic => s
  | .any => (s.drawn 4).setF (withYXHP s.regs.f (s.drawnBit 0) (s.drawnBit 1) (s.drawnBit 2) (s.drawnBit 3))

/-- R710, taken: PC back to the ED byte, 21 T-states. -/
def State.repeatAgain (s : State) : State := (s.setPc (s.pc - 2)).tick 21

/-- The end of a transfer step: repeat while BC ≠ 0 (R706). -/
def State.ldRepeat (s : State) : State :=
  if s.regs.bc = 0 then s.tick 16 else s.repeatYX.repeatAgain

/-- The end of a search step: repeat while BC ≠ 0 and Z = 0 (R711). -/
def State.cpRepeat (s : State) : State :=
  if s.regs.bc = 0 ∨ zFlag s.regs.f = true then s.tick 16 else s.repeatYX.repeatAgain

/-- The end of an I/O step: repeat while B ≠ 0 (R722). -/
def State.ioRepeat (s : State) : State :=
  if s.regs.b = 0 then s.tick 16 else s.repeatYXHP.repeatAgain

/-! ## The sixteen instructions -/

/-- `LDI` (R704). -/
def execLdi (s : State) : Result := .next ((s.ldUnit .up).tick 16)

/-- `LDD` (R705). -/
def execLdd (s : State) : Result := .next ((s.ldUnit .down).tick 16)

/-- `LDIR` (R706). -/
def execLdir (s : State) : Result := .next (s.ldUnit .up).ldRepeat

/-- `LDDR` (R707). -/
def execLddr (s : State) : Result := .next (s.ldUnit .down).ldRepeat

/-- `CPI` (R708). -/
def execCpi (s : State) : Result := .next ((s.cpUnit .up).tick 16)

/-- `CPD` (R709). -/
def execCpd (s : State) : Result := .next ((s.cpUnit .down).tick 16)

/-- `CPIR` (R711). -/
def execCpir (s : State) : Result := .next (s.cpUnit .up).cpRepeat

/-- `CPDR` (R712). -/
def execCpdr (s : State) : Result := .next (s.cpUnit .down).cpRepeat

/-- `INI` (R720). -/
def execIni (s : State) : Result := .next ((s.inUnit .up).tick 16)

/-- `IND` (R721). -/
def execInd (s : State) : Result := .next ((s.inUnit .down).tick 16)

/-- `INIR` (R722). -/
def execInir (s : State) : Result := .next (s.inUnit .up).ioRepeat

/-- `INDR` (R723). -/
def execIndr (s : State) : Result := .next (s.inUnit .down).ioRepeat

/-- `OUTI` (R724). -/
def execOuti (s : State) : Result := .next ((s.outUnit .up).tick 16)

/-- `OUTD` (R725). -/
def execOutd (s : State) : Result := .next ((s.outUnit .down).tick 16)

/-- `OTIR` (R726). -/
def execOtir (s : State) : Result := .next (s.outUnit .up).ioRepeat

/-- `OTDR` (R727). -/
def execOtdr (s : State) : Result := .next (s.outUnit .down).ioRepeat

end Sys2Proof.Machine
end

