-- ==== Sys2Proof/Machine/CpuControl.lean ====
section
/-! DEFINITION. 47_cpu_control: NOP, HALT, DI, EI, IM, ED_UNDEFINED (R1100-R1106), and the prefix rows of the opcode table as
moves of the fetch state machine (30_encoding R320-R327, 47 R1107). A prefix move leaves the fetch phase unfinished: it names the
context in which the next byte is read. -/

namespace Sys2Proof.Machine

/-- `NOP` (R1100). -/
def execNop (s : State) : Result := .next (s.tick 4)

/-- `HALT` (R1101): PC stays after the HALT byte. -/
def execHalt (s : State) : Result := .next ((s.setHalted true).tick 4)

/-- `DI` (R1103). -/
def execDi (s : State) : Result := .next (((s.setIff1 false).setIff2 false).tick 4)

/-- `EI` (R1104): the step is marked, so that the next step accepts no INT (R1311). -/
def execEi (s : State) : Result := .next ((((s.setIff1 true).setIff2 true).setInhibit .ei).tick 4)

/-- `IM m` (R1105). -/
def execImM (m : IntMode) (s : State) : Result := .next ((s.setIm m).tick 8)

/-- ED_UNDEFINED (R1106): no effect but its cost, whatever the opcode byte. -/
def execEdUndefined (_op : Byte) (s : State) : Result := .next (s.tick 8)

/-- The prefix CB in context `none` (R326). -/
def execPrefixCB (s : State) : Result := .next (s.setFetching (some .cb))

/-- The prefix ED in context `none` (R327). -/
def execPrefixED (s : State) : Result := .next (s.setFetching (some .ed))

/-- The prefix DD or FD in context `none` (R320). -/
def execPrefixIdx (x : Idx) (s : State) : Result := .next (s.setFetching (some (.idx x)))

/-- CB in a DD/FD context, with its displacement (R323). -/
def execPrefixIdxCB (x : Idx) (d : Byte) (s : State) : Result := .next (s.setFetching (some (.idxCb x d)))

/-- DD or FD in a DD/FD context: the first prefix is discarded and costs 4 T-states (R322). -/
def execOverriddenByIdx (_x x2 : Idx) (s : State) : Result := .next ((s.setFetching (some (.idx x2))).tick 4)

/-- ED in a DD/FD context: the DD/FD is discarded and costs 4 T-states (R322). -/
def execOverriddenByEd (_x : Idx) (s : State) : Result := .next ((s.setFetching (some .ed)).tick 4)

/-- A DD/FD before an opcode it does not affect (R325, R1107): 4 T-states, and the opcode is executed as unprefixed. -/
def execIgnoredPrefix (_x : Idx) (_op : Byte) (s : State) : Result := .next ((s.setFetching (some .plain)).tick 4)

end Sys2Proof.Machine
end

