-- ==== Sys2Proof/Machine/Io.lean ====
section
/-! DEFINITION. 48_io: single-byte input and output (R1200-R1205). What a port answers is a free value (20_memory R219, log 8). -/

namespace Sys2Proof.Machine

/-- `IN A,(n)` (R1200): port A:n, no flag. -/
def execInAN (n : Byte) (s : State) : Result :=
  .next (((s.inDone (s.portAN n)).setA (s.portVal (s.portAN n))).tick 11)

/-- The flags of an input byte (R1201): C unchanged. -/
def inFlags (v f : Byte) : Byte := rotateFlags8 v (cFlag f)

/-- `IN r,(C)` (R1201). -/
def execInRC (r : Reg8) (s : State) : Result :=
  let v := s.portVal s.regs.bc
  .next ((((s.inDone s.regs.bc).setReg r v).setF (inFlags v s.regs.f)).tick 12)

/-- `IN F,(C)` (R1202): the flags alone. -/
def execInFC (s : State) : Result :=
  .next (((s.inDone s.regs.bc).setF (inFlags (s.portVal s.regs.bc) s.regs.f)).tick 12)

/-- `OUT (n),A` (R1203). -/
def execOutNA (n : Byte) (s : State) : Result := .next ((s.out (s.portAN n) s.regs.a).tick 11)

/-- `OUT (C),r` (R1204). -/
def execOutCR (r : Reg8) (s : State) : Result := .next ((s.out s.regs.bc (s.getReg r)).tick 12)

/-- `OUT (C),0` (R1205). -/
def execOutC0 (s : State) : Result := .next ((s.out s.regs.bc 0).tick 12)

end Sys2Proof.Machine
end

