-- ==== Sys2Proof/Machine/Jump.lean ====
section
/-! DEFINITION. 46_jump_call_return: jumps, calls, returns, restarts (R1000-R1031). No flag is written. -/

namespace Sys2Proof.Machine

/-- `JP nn` (R1000). -/
def execJpNn (nn : Word) (s : State) : Result := .next ((s.setPc nn).tick 10)

/-- `JP cc,nn` (R1001). -/
def execJpCcNn (cc : Cond) (nn : Word) (s : State) : Result :=
  if condHolds cc s.regs.f then .next ((s.setPc nn).tick 10) else .next (s.tick 10)

/-- `JR e` (R1002). -/
def execJr (e : Byte) (s : State) : Result := .next ((s.setPc (s.rel e)).tick 12)

/-- `JR cc,e` (R1003). -/
def execJrCc (cc : CondJr) (e : Byte) (s : State) : Result :=
  if condHolds (jrCond cc) s.regs.f then .next ((s.setPc (s.rel e)).tick 12) else .next (s.tick 7)

/-- `DJNZ e` (R1004). -/
def execDjnz (e : Byte) (s : State) : Result :=
  let t := s.setB (s.regs.b - 1)
  if t.regs.b = 0 then .next (t.tick 8) else .next ((t.setPc (t.rel e)).tick 13)

/-- `JP (HL)` (R1005): no memory read. -/
def execJpHl (s : State) : Result := .next ((s.setPc s.regs.hl).tick 4)

/-- `JP (IXY)` (R1006): no memory read. -/
def execJpIxy (x : Idx) (s : State) : Result := .next ((s.setPc (s.getIdx x)).tick 8)

/-- `CALL nn` (R1010). -/
def execCallNn (nn : Word) (s : State) : Result := .next (((s.push s.pc).setPc nn).tick 17)

/-- `CALL cc,nn` (R1011). -/
def execCallCcNn (cc : Cond) (nn : Word) (s : State) : Result :=
  if condHolds cc s.regs.f then .next (((s.push s.pc).setPc nn).tick 17) else .next (s.tick 10)

/-- `RET` (R1012). -/
def execRet (s : State) : Result := .next (s.popPc.tick 10)

/-- `RET cc` (R1013). -/
def execRetCc (cc : Cond) (s : State) : Result :=
  if condHolds cc s.regs.f then .next (s.popPc.tick 11) else .next (s.tick 5)

/-- `RST p` (R1020), p = 8 * y. -/
def execRst (y : BitVec 3) (s : State) : Result :=
  .next (((s.push s.pc).setPc (BitVec.ofNat 16 (8 * y.toNat))).tick 11)

/-- `RETI` (R1030). -/
def execReti (s : State) : Result := .next (s.returnInt.tick 14)

/-- `RETN` (R1031). -/
def execRetn (s : State) : Result := .next (s.returnNmi.tick 14)

end Sys2Proof.Machine
end

