-- ==== Sys2Proof/Machine/LoadExchange.lean ====
section
/-! DEFINITION. 40_load_exchange: 8-bit and 16-bit loads, stack and exchanges (R400-R444). No flag changes but by LD A,I,
LD A,R, POP AF and EX AF,AF'. Each meaning runs after the fetch phase, PC at the next instruction (R11). -/

namespace Sys2Proof.Machine

/-! ## 8-bit loads (R400-R413) -/

/-- `LD r,r'` (R400). -/
def execLdRR (dst src : Reg8) (s : State) : Result := .next ((s.setReg dst (s.getReg src)).tick 4)

/-- `LD r,n` (R401). -/
def execLdRN (r : Reg8) (n : Byte) (s : State) : Result := .next ((s.setReg r n).tick 7)

/-- `LD r,(HL)` (R402). -/
def execLdRHl (r : Reg8) (s : State) : Result :=
  .next (((s.readDone s.regs.hl).setReg r (s.memVal s.regs.hl)).tick 7)

/-- `LD r,(IXY+d)` (R403): the real register. -/
def execLdRXd (x : Idx) (r : Reg8) (d : Byte) (s : State) : Result :=
  .next (((s.readDone (s.ea x d)).setReg r (s.memVal (s.ea x d))).tick 19)

/-- `LD (HL),r` (R404). -/
def execLdHlR (r : Reg8) (s : State) : Result := .next ((s.store s.regs.hl (s.getReg r)).tick 7)

/-- `LD (IXY+d),r` (R405): the real register. -/
def execLdXdR (x : Idx) (d : Byte) (r : Reg8) (s : State) : Result :=
  .next ((s.store (s.ea x d) (s.getReg r)).tick 19)

/-- `LD (HL),n` (R406). -/
def execLdHlN (n : Byte) (s : State) : Result := .next ((s.store s.regs.hl n).tick 10)

/-- `LD (IXY+d),n` (R407). -/
def execLdXdN (x : Idx) (d n : Byte) (s : State) : Result := .next ((s.store (s.ea x d) n).tick 19)

/-- `LD A,(BC)` (R408). -/
def execLdABc (s : State) : Result := .next (((s.readDone s.regs.bc).setA (s.memVal s.regs.bc)).tick 7)

/-- `LD A,(DE)` (R409). -/
def execLdADe (s : State) : Result := .next (((s.readDone s.regs.de).setA (s.memVal s.regs.de)).tick 7)

/-- `LD A,(nn)` (R410). -/
def execLdANn (nn : Word) (s : State) : Result := .next (((s.readDone nn).setA (s.memVal nn)).tick 13)

/-- `LD (BC),A` (R411). -/
def execLdBcA (s : State) : Result := .next ((s.store s.regs.bc s.regs.a).tick 7)

/-- `LD (DE),A` (R412). -/
def execLdDeA (s : State) : Result := .next ((s.store s.regs.de s.regs.a).tick 7)

/-- `LD (nn),A` (R413). -/
def execLdNnA (nn : Word) (s : State) : Result := .next ((s.store nn s.regs.a).tick 13)

/-! ## I and R (R414-R417) -/

/-- INT can be accepted right after this `LD A,I`/`LD A,R` step (R7 `LD_A_IR_QUIRK`, R1328). -/
def State.irQuirk (s : State) : Bool := s.params.ldAIrQuirk == .any && s.intLine && s.iff1

/-- The shared body of R414 and R415: PV is IFF2, or drawn under the quirk. -/
def State.ldAFromIr (s : State) (v : Byte) : State :=
  let pv := if s.irQuirk then s.drawnBit 0 else s.iff2
  let t := if s.irQuirk then s.drawn 1 else s
  t.setRegs { s.regs with a := v, f := ldAIrFlags v s.regs.f pv }

/-- `LD A,I` (R414). -/
def execLdAI (s : State) : Result := .next ((s.ldAFromIr s.i).tick 9)

/-- `LD A,R` (R415): R as it is after the two increments of this instruction's fetch. -/
def execLdAR (s : State) : Result := .next ((s.ldAFromIr s.r).tick 9)

/-- `LD I,A` (R416). -/
def execLdIA (s : State) : Result := .next ((s.setI s.regs.a).tick 9)

/-- `LD R,A` (R417). -/
def execLdRA (s : State) : Result := .next ((s.setR s.regs.a).tick 9)

/-! ## Index halves (R418, R419) -/

/-- `LD` with IXYH or IXYL (R418). -/
def execLdXh (x : Idx) (dst src : RegX) (s : State) : Result := .next ((s.setRegX x dst (s.getRegX x src)).tick 8)

/-- `LD IXYH,n`, `LD IXYL,n` (R419). -/
def execLdXhN (x : Idx) (k : Half) (n : Byte) (s : State) : Result := .next ((s.setHalf x k n).tick 11)

/-! ## 16-bit loads (R420-R429) -/

/-- `LD dd,nn` (R420). -/
def execLdDdNn (p : Pair) (nn : Word) (s : State) : Result := .next ((s.setPair p nn).tick 10)

/-- `LD IXY,nn` (R421). -/
def execLdIxyNn (x : Idx) (nn : Word) (s : State) : Result := .next ((s.setIdx x nn).tick 14)

/-- `LD HL,(nn)` (R422). -/
def execLdHlInd (nn : Word) (s : State) : Result := .next (((s.readDone2 nn).setHl (s.memVal2 nn)).tick 16)

/-- `LD IXY,(nn)` (R423). -/
def execLdIxyInd (x : Idx) (nn : Word) (s : State) : Result :=
  .next (((s.readDone2 nn).setIdx x (s.memVal2 nn)).tick 20)

/-- `LD dd,(nn)` (R424). -/
def execLdDdInd (p : Pair) (nn : Word) (s : State) : Result :=
  .next (((s.readDone2 nn).setPair p (s.memVal2 nn)).tick 20)

/-- `LD (nn),HL` (R425). -/
def execLdNnHl (nn : Word) (s : State) : Result := .next ((s.store2 nn s.regs.hl).tick 16)

/-- `LD (nn),IXY` (R426). -/
def execLdNnIxy (x : Idx) (nn : Word) (s : State) : Result := .next ((s.store2 nn (s.getIdx x)).tick 20)

/-- `LD (nn),dd` (R427). -/
def execLdNnDd (p : Pair) (nn : Word) (s : State) : Result := .next ((s.store2 nn (s.getPair p)).tick 20)

/-- `LD SP,HL` (R428). -/
def execLdSpHl (s : State) : Result := .next ((s.setSp s.regs.hl).tick 6)

/-- `LD SP,IXY` (R429). -/
def execLdSpIxy (x : Idx) (s : State) : Result := .next ((s.setSp (s.getIdx x)).tick 10)

/-! ## Stack (R430-R433) -/

/-- `PUSH qq` (R430). -/
def execPushQq (q : PairQ) (s : State) : Result := .next ((s.push (s.getPairQ q)).tick 11)

/-- `PUSH IXY` (R431). -/
def execPushIxy (x : Idx) (s : State) : Result := .next ((s.push (s.getIdx x)).tick 15)

/-- `POP qq` (R432). -/
def execPopQq (q : PairQ) (s : State) : Result := .next ((s.popDone.setPairQ q s.popVal).tick 10)

/-- `POP IXY` (R433). -/
def execPopIxy (x : Idx) (s : State) : Result := .next ((s.popDone.setIdx x s.popVal).tick 14)

/-! ## Exchanges (R440-R444) -/

/-- `EX DE,HL` (R440). -/
def execExDeHl (s : State) : Result := .next (((s.setDe s.regs.hl).setHl s.regs.de).tick 4)

/-- `EX AF,AF'` (R441). -/
def execExAfAf (s : State) : Result :=
  let t := s.setRegs { s.regs with a := s.shadow.a, f := s.shadow.f }
  .next ((t.setShadow { s.shadow with a := s.regs.a, f := s.regs.f }).tick 4)

/-- `EXX` (R442). -/
def execExx (s : State) : Result :=
  let t := s.setRegs { s.shadow with a := s.regs.a, f := s.regs.f }
  .next ((t.setShadow { s.regs with a := s.shadow.a, f := s.shadow.f }).tick 4)

/-- The memory half of `EX (SP),rr` (R443): read SP, read SP + 1, write SP + 1, write SP. -/
def State.exSp (s : State) (v : Word) : State :=
  ((s.readDone2 s.sp).store (s.sp + 1) (hiByte v)).store s.sp (loByte v)

/-- `EX (SP),HL` (R443). -/
def execExSpHl (s : State) : Result := .next (((s.exSp s.regs.hl).setHl (s.memVal2 s.sp)).tick 19)

/-- `EX (SP),IXY` (R444). -/
def execExSpIxy (x : Idx) (s : State) : Result :=
  .next (((s.exSp (s.getIdx x)).setIdx x (s.memVal2 s.sp)).tick 23)

end Sys2Proof.Machine
end

