-- ==== Sys2Proof/Machine/RotateShift.lean ====
section
/-! DEFINITION. 44_rotate_shift: accumulator rotates (R800-R803), the CB rotates and shifts in their four operand forms
(R804, R810-R817), RLD and RRD (R820, R821). -/

namespace Sys2Proof.Machine

/-! ## Accumulator rotates (R800-R803) -/

/-- The shared body of the accumulator rotates. -/
def State.accRot (s : State) (p : Rot) : State :=
  s.setRegs { s.regs with a := p.val, f := accRotFlags p.val s.regs.f p.co }

/-- `RLCA` (R800). -/
def execRlca (s : State) : Result := .next ((s.accRot (rlcOp s.regs.a)).tick 4)

/-- `RLA` (R801). -/
def execRla (s : State) : Result := .next ((s.accRot (rlOp s.regs.a (cFlag s.regs.f))).tick 4)

/-- `RRCA` (R802). -/
def execRrca (s : State) : Result := .next ((s.accRot (rrcOp s.regs.a)).tick 4)

/-- `RRA` (R803). -/
def execRra (s : State) : Result := .next ((s.accRot (rrOp s.regs.a (cFlag s.regs.f))).tick 4)

/-! ## The operand forms of R804 -/

/-- The eight rotates and shifts (R307). -/
inductive RotOp where
  | rlc | rrc | rl | rr | sla | sra | sll | srl
  deriving DecidableEq, Repr

/-- `op(v)` (R810-R817), c the carry. -/
def rotOp (op : RotOp) (v : Byte) (c : Bool) : Rot :=
  match op with
  | .rlc => rlcOp v
  | .rrc => rrcOp v
  | .rl => rlOp v c
  | .rr => rrOp v c
  | .sla => slaOp v
  | .sra => sraOp v
  | .sll => sllOp v
  | .srl => srlOp v

/-- The result of a rotate of the byte v in this state. -/
def State.rot (s : State) (op : RotOp) (v : Byte) : Rot := rotOp op v (cFlag s.regs.f)

/-- `op r` and `op (HL)` (R804). -/
def State.rotM (s : State) (op : RotOp) (m : RegM) : State :=
  let p := s.rot op (s.mVal m)
  (((s.mReadDone m).mWrite m p.val).setF (rotateFlags8 p.val p.co)).tick (mPick m 8 15)

/-- `op (IXY+d)` (R804). -/
def State.rotXd (s : State) (op : RotOp) (x : Idx) (d : Byte) : State :=
  let p := s.rot op (s.memVal (s.ea x d))
  ((s.rmw (s.ea x d) p.val).setF (rotateFlags8 p.val p.co)).tick 23

/-- `op (IXY+d),r` (R804): as `op (IXY+d)`, then the result into the real register. -/
def State.rotXdR (s : State) (op : RotOp) (x : Idx) (d : Byte) (r : Reg8) : State :=
  (s.rotXd op x d).setReg r (s.rot op (s.memVal (s.ea x d))).val

/-- `RLC m`, m = r[z] or (HL) (R810). -/
def execRlcM (m : RegM) (s : State) : Result := .next (s.rotM .rlc m)

/-- `RLC (IXY+d)` (R810). -/
def execRlcXd (x : Idx) (d : Byte) (s : State) : Result := .next (s.rotXd .rlc x d)

/-- `RLC (IXY+d),r` (R810, R804). -/
def execRlcXdR (x : Idx) (d : Byte) (r : Reg8) (s : State) : Result := .next (s.rotXdR .rlc x d r)

/-- `RRC m`, m = r[z] or (HL) (R811). -/
def execRrcM (m : RegM) (s : State) : Result := .next (s.rotM .rrc m)

/-- `RRC (IXY+d)` (R811). -/
def execRrcXd (x : Idx) (d : Byte) (s : State) : Result := .next (s.rotXd .rrc x d)

/-- `RRC (IXY+d),r` (R811, R804). -/
def execRrcXdR (x : Idx) (d : Byte) (r : Reg8) (s : State) : Result := .next (s.rotXdR .rrc x d r)

/-- `RL m`, m = r[z] or (HL) (R812). -/
def execRlM (m : RegM) (s : State) : Result := .next (s.rotM .rl m)

/-- `RL (IXY+d)` (R812). -/
def execRlXd (x : Idx) (d : Byte) (s : State) : Result := .next (s.rotXd .rl x d)

/-- `RL (IXY+d),r` (R812, R804). -/
def execRlXdR (x : Idx) (d : Byte) (r : Reg8) (s : State) : Result := .next (s.rotXdR .rl x d r)

/-- `RR m`, m = r[z] or (HL) (R813). -/
def execRrM (m : RegM) (s : State) : Result := .next (s.rotM .rr m)

/-- `RR (IXY+d)` (R813). -/
def execRrXd (x : Idx) (d : Byte) (s : State) : Result := .next (s.rotXd .rr x d)

/-- `RR (IXY+d),r` (R813, R804). -/
def execRrXdR (x : Idx) (d : Byte) (r : Reg8) (s : State) : Result := .next (s.rotXdR .rr x d r)

/-- `SLA m`, m = r[z] or (HL) (R814). -/
def execSlaM (m : RegM) (s : State) : Result := .next (s.rotM .sla m)

/-- `SLA (IXY+d)` (R814). -/
def execSlaXd (x : Idx) (d : Byte) (s : State) : Result := .next (s.rotXd .sla x d)

/-- `SLA (IXY+d),r` (R814, R804). -/
def execSlaXdR (x : Idx) (d : Byte) (r : Reg8) (s : State) : Result := .next (s.rotXdR .sla x d r)

/-- `SRA m`, m = r[z] or (HL) (R815). -/
def execSraM (m : RegM) (s : State) : Result := .next (s.rotM .sra m)

/-- `SRA (IXY+d)` (R815). -/
def execSraXd (x : Idx) (d : Byte) (s : State) : Result := .next (s.rotXd .sra x d)

/-- `SRA (IXY+d),r` (R815, R804). -/
def execSraXdR (x : Idx) (d : Byte) (r : Reg8) (s : State) : Result := .next (s.rotXdR .sra x d r)

/-- `SLL m`, m = r[z] or (HL) (R816). -/
def execSllM (m : RegM) (s : State) : Result := .next (s.rotM .sll m)

/-- `SLL (IXY+d)` (R816). -/
def execSllXd (x : Idx) (d : Byte) (s : State) : Result := .next (s.rotXd .sll x d)

/-- `SLL (IXY+d),r` (R816, R804). -/
def execSllXdR (x : Idx) (d : Byte) (r : Reg8) (s : State) : Result := .next (s.rotXdR .sll x d r)

/-- `SRL m`, m = r[z] or (HL) (R817). -/
def execSrlM (m : RegM) (s : State) : Result := .next (s.rotM .srl m)

/-- `SRL (IXY+d)` (R817). -/
def execSrlXd (x : Idx) (d : Byte) (s : State) : Result := .next (s.rotXd .srl x d)

/-- `SRL (IXY+d),r` (R817, R804). -/
def execSrlXdR (x : Idx) (d : Byte) (r : Reg8) (s : State) : Result := .next (s.rotXdR .srl x d r)

/-! ## Digit rotates (R820, R821) -/

/-- `hi << 4 | lo` of two low nibbles. -/
def nibbles (hi lo : Nat) : Byte := BitVec.ofNat 8 (hi % 16 * 16 + lo % 16)

/-- `RLD` (R820). -/
def execRld (s : State) : Result :=
  let m := (s.memVal s.regs.hl).toNat
  let a := nibbles (s.regs.a.toNat / 16) (m / 16)
  let t := s.rmw s.regs.hl (nibbles m s.regs.a.toNat)
  .next ((t.setRegs { s.regs with a := a, f := rotateFlags8 a (cFlag s.regs.f) }).tick 18)

/-- `RRD` (R821). -/
def execRrd (s : State) : Result :=
  let m := (s.memVal s.regs.hl).toNat
  let a := nibbles (s.regs.a.toNat / 16) m
  let t := s.rmw s.regs.hl (nibbles s.regs.a.toNat (m / 16))
  .next ((t.setRegs { s.regs with a := a, f := rotateFlags8 a (cFlag s.regs.f) }).tick 18)

end Sys2Proof.Machine
end

