-- ==== Sys2Proof/Machine/Dispatch.lean ====
section
/-! DEFINITION. The dispatcher: one arm per constructor of Instr, each one direct call of its meaning. -/

namespace Sys2Proof.Machine

open Sys2Proof

def exec (i : Instr) (s : State) : Host.Outcome State Fault Refusal :=
  match i with
  | .nop => Sys2Proof.Machine.execNop s
  | .ldDdNn p nn => Sys2Proof.Machine.execLdDdNn p nn s
  | .ldBcA => Sys2Proof.Machine.execLdBcA s
  | .ldDeA => Sys2Proof.Machine.execLdDeA s
  | .ldNnHl nn => Sys2Proof.Machine.execLdNnHl nn s
  | .ldNnA nn => Sys2Proof.Machine.execLdNnA nn s
  | .incSs p => Sys2Proof.Machine.execIncSs p s
  | .decSs p => Sys2Proof.Machine.execDecSs p s
  | .incR r => Sys2Proof.Machine.execIncR r s
  | .incHl => Sys2Proof.Machine.execIncHl s
  | .decR r => Sys2Proof.Machine.execDecR r s
  | .decHl => Sys2Proof.Machine.execDecHl s
  | .ldRN r n => Sys2Proof.Machine.execLdRN r n s
  | .ldHlN n => Sys2Proof.Machine.execLdHlN n s
  | .rlca => Sys2Proof.Machine.execRlca s
  | .rrca => Sys2Proof.Machine.execRrca s
  | .rla => Sys2Proof.Machine.execRla s
  | .rra => Sys2Proof.Machine.execRra s
  | .daa => Sys2Proof.Machine.execDaa s
  | .cpl => Sys2Proof.Machine.execCpl s
  | .scf => Sys2Proof.Machine.execScf s
  | .ccf => Sys2Proof.Machine.execCcf s
  | .exAfAf => Sys2Proof.Machine.execExAfAf s
  | .ldABc => Sys2Proof.Machine.execLdABc s
  | .ldADe => Sys2Proof.Machine.execLdADe s
  | .halt => Sys2Proof.Machine.execHalt s
  | .ret => Sys2Proof.Machine.execRet s
  | .exx => Sys2Proof.Machine.execExx s
  | .exSpHl => Sys2Proof.Machine.execExSpHl s
  | .jpHl => Sys2Proof.Machine.execJpHl s
  | .exDeHl => Sys2Proof.Machine.execExDeHl s
  | .di => Sys2Proof.Machine.execDi s
  | .ldSpHl => Sys2Proof.Machine.execLdSpHl s
  | .ei => Sys2Proof.Machine.execEi s
  | .addHlSs p => Sys2Proof.Machine.execAddHlSs p s
  | .ldHlInd nn => Sys2Proof.Machine.execLdHlInd nn s
  | .ldANn nn => Sys2Proof.Machine.execLdANn nn s
  | .djnz e => Sys2Proof.Machine.execDjnz e s
  | .jr e => Sys2Proof.Machine.execJr e s
  | .jrCc cc e => Sys2Proof.Machine.execJrCc cc e s
  | .ldRR dst src => Sys2Proof.Machine.execLdRR dst src s
  | .ldRHl r => Sys2Proof.Machine.execLdRHl r s
  | .ldHlR r => Sys2Proof.Machine.execLdHlR r s
  | .addAS m => Sys2Proof.Machine.execAddAS m s
  | .addAN n => Sys2Proof.Machine.execAddAN n s
  | .adcAS m => Sys2Proof.Machine.execAdcAS m s
  | .adcAN n => Sys2Proof.Machine.execAdcAN n s
  | .subS m => Sys2Proof.Machine.execSubS m s
  | .subN n => Sys2Proof.Machine.execSubN n s
  | .sbcAS m => Sys2Proof.Machine.execSbcAS m s
  | .sbcAN n => Sys2Proof.Machine.execSbcAN n s
  | .andS m => Sys2Proof.Machine.execAndS m s
  | .andN n => Sys2Proof.Machine.execAndN n s
  | .xorS m => Sys2Proof.Machine.execXorS m s
  | .xorN n => Sys2Proof.Machine.execXorN n s
  | .orS m => Sys2Proof.Machine.execOrS m s
  | .orN n => Sys2Proof.Machine.execOrN n s
  | .cpS m => Sys2Proof.Machine.execCpS m s
  | .cpN n => Sys2Proof.Machine.execCpN n s
  | .retCc cc => Sys2Proof.Machine.execRetCc cc s
  | .popQq q => Sys2Proof.Machine.execPopQq q s
  | .jpCcNn cc nn => Sys2Proof.Machine.execJpCcNn cc nn s
  | .jpNn nn => Sys2Proof.Machine.execJpNn nn s
  | .callCcNn cc nn => Sys2Proof.Machine.execCallCcNn cc nn s
  | .pushQq q => Sys2Proof.Machine.execPushQq q s
  | .rst y => Sys2Proof.Machine.execRst y s
  | .callNn nn => Sys2Proof.Machine.execCallNn nn s
  | .outNA n => Sys2Proof.Machine.execOutNA n s
  | .inAN n => Sys2Proof.Machine.execInAN n s
  | .prefixCB => Sys2Proof.Machine.execPrefixCB s
  | .prefixED => Sys2Proof.Machine.execPrefixED s
  | .prefixIdx x => Sys2Proof.Machine.execPrefixIdx x s
  | .rlcM m => Sys2Proof.Machine.execRlcM m s
  | .rrcM m => Sys2Proof.Machine.execRrcM m s
  | .rlM m => Sys2Proof.Machine.execRlM m s
  | .rrM m => Sys2Proof.Machine.execRrM m s
  | .slaM m => Sys2Proof.Machine.execSlaM m s
  | .sraM m => Sys2Proof.Machine.execSraM m s
  | .sllM m => Sys2Proof.Machine.execSllM m s
  | .srlM m => Sys2Proof.Machine.execSrlM m s
  | .bitBR b r => Sys2Proof.Machine.execBitBR b r s
  | .bitBHl b => Sys2Proof.Machine.execBitBHl b s
  | .resBR b r => Sys2Proof.Machine.execResBR b r s
  | .resBHl b => Sys2Proof.Machine.execResBHl b s
  | .setBR b r => Sys2Proof.Machine.execSetBR b r s
  | .setBHl b => Sys2Proof.Machine.execSetBHl b s
  | .inRC r => Sys2Proof.Machine.execInRC r s
  | .inFC => Sys2Proof.Machine.execInFC s
  | .outCR r => Sys2Proof.Machine.execOutCR r s
  | .outC0 => Sys2Proof.Machine.execOutC0 s
  | .sbcHlSs p => Sys2Proof.Machine.execSbcHlSs p s
  | .adcHlSs p => Sys2Proof.Machine.execAdcHlSs p s
  | .ldNnDd p nn => Sys2Proof.Machine.execLdNnDd p nn s
  | .ldDdInd p nn => Sys2Proof.Machine.execLdDdInd p nn s
  | .neg => Sys2Proof.Machine.execNeg s
  | .retn => Sys2Proof.Machine.execRetn s
  | .reti => Sys2Proof.Machine.execReti s
  | .imM m => Sys2Proof.Machine.execImM m s
  | .ldIA => Sys2Proof.Machine.execLdIA s
  | .ldRA => Sys2Proof.Machine.execLdRA s
  | .ldAI => Sys2Proof.Machine.execLdAI s
  | .ldAR => Sys2Proof.Machine.execLdAR s
  | .rrd => Sys2Proof.Machine.execRrd s
  | .rld => Sys2Proof.Machine.execRld s
  | .ldi => Sys2Proof.Machine.execLdi s
  | .cpi => Sys2Proof.Machine.execCpi s
  | .ini => Sys2Proof.Machine.execIni s
  | .outi => Sys2Proof.Machine.execOuti s
  | .ldd => Sys2Proof.Machine.execLdd s
  | .cpd => Sys2Proof.Machine.execCpd s
  | .ind => Sys2Proof.Machine.execInd s
  | .outd => Sys2Proof.Machine.execOutd s
  | .ldir => Sys2Proof.Machine.execLdir s
  | .cpir => Sys2Proof.Machine.execCpir s
  | .inir => Sys2Proof.Machine.execInir s
  | .otir => Sys2Proof.Machine.execOtir s
  | .lddr => Sys2Proof.Machine.execLddr s
  | .cpdr => Sys2Proof.Machine.execCpdr s
  | .indr => Sys2Proof.Machine.execIndr s
  | .otdr => Sys2Proof.Machine.execOtdr s
  | .edUndefined op => Sys2Proof.Machine.execEdUndefined op s
  | .addIxyPp x p => Sys2Proof.Machine.execAddIxyPp x p s
  | .ldIxyNn x nn => Sys2Proof.Machine.execLdIxyNn x nn s
  | .ldNnIxy x nn => Sys2Proof.Machine.execLdNnIxy x nn s
  | .incIxy x => Sys2Proof.Machine.execIncIxy x s
  | .ldIxyInd x nn => Sys2Proof.Machine.execLdIxyInd x nn s
  | .decIxy x => Sys2Proof.Machine.execDecIxy x s
  | .incXh x k => Sys2Proof.Machine.execIncXh x k s
  | .decXh x k => Sys2Proof.Machine.execDecXh x k s
  | .ldXhN x k n => Sys2Proof.Machine.execLdXhN x k n s
  | .incXd x d => Sys2Proof.Machine.execIncXd x d s
  | .decXd x d => Sys2Proof.Machine.execDecXd x d s
  | .ldXdN x d n => Sys2Proof.Machine.execLdXdN x d n s
  | .ldRXd x r d => Sys2Proof.Machine.execLdRXd x r d s
  | .ldXdR x d r => Sys2Proof.Machine.execLdXdR x d r s
  | .ldXh x dst src => Sys2Proof.Machine.execLdXh x dst src s
  | .addAXh x k => Sys2Proof.Machine.execAddAXh x k s
  | .addAXd x d => Sys2Proof.Machine.execAddAXd x d s
  | .adcAXh x k => Sys2Proof.Machine.execAdcAXh x k s
  | .adcAXd x d => Sys2Proof.Machine.execAdcAXd x d s
  | .subXh x k => Sys2Proof.Machine.execSubXh x k s
  | .subXd x d => Sys2Proof.Machine.execSubXd x d s
  | .sbcAXh x k => Sys2Proof.Machine.execSbcAXh x k s
  | .sbcAXd x d => Sys2Proof.Machine.execSbcAXd x d s
  | .andXh x k => Sys2Proof.Machine.execAndXh x k s
  | .andXd x d => Sys2Proof.Machine.execAndXd x d s
  | .xorXh x k => Sys2Proof.Machine.execXorXh x k s
  | .xorXd x d => Sys2Proof.Machine.execXorXd x d s
  | .orXh x k => Sys2Proof.Machine.execOrXh x k s
  | .orXd x d => Sys2Proof.Machine.execOrXd x d s
  | .cpXh x k => Sys2Proof.Machine.execCpXh x k s
  | .cpXd x d => Sys2Proof.Machine.execCpXd x d s
  | .popIxy x => Sys2Proof.Machine.execPopIxy x s
  | .exSpIxy x => Sys2Proof.Machine.execExSpIxy x s
  | .pushIxy x => Sys2Proof.Machine.execPushIxy x s
  | .jpIxy x => Sys2Proof.Machine.execJpIxy x s
  | .ldSpIxy x => Sys2Proof.Machine.execLdSpIxy x s
  | .prefixIdxCB x d => Sys2Proof.Machine.execPrefixIdxCB x d s
  | .overriddenByIdx x x2 => Sys2Proof.Machine.execOverriddenByIdx x x2 s
  | .overriddenByEd x => Sys2Proof.Machine.execOverriddenByEd x s
  | .ignoredPrefix x op => Sys2Proof.Machine.execIgnoredPrefix x op s
  | .rlcXd x d => Sys2Proof.Machine.execRlcXd x d s
  | .rlcXdR x d r => Sys2Proof.Machine.execRlcXdR x d r s
  | .rrcXd x d => Sys2Proof.Machine.execRrcXd x d s
  | .rrcXdR x d r => Sys2Proof.Machine.execRrcXdR x d r s
  | .rlXd x d => Sys2Proof.Machine.execRlXd x d s
  | .rlXdR x d r => Sys2Proof.Machine.execRlXdR x d r s
  | .rrXd x d => Sys2Proof.Machine.execRrXd x d s
  | .rrXdR x d r => Sys2Proof.Machine.execRrXdR x d r s
  | .slaXd x d => Sys2Proof.Machine.execSlaXd x d s
  | .slaXdR x d r => Sys2Proof.Machine.execSlaXdR x d r s
  | .sraXd x d => Sys2Proof.Machine.execSraXd x d s
  | .sraXdR x d r => Sys2Proof.Machine.execSraXdR x d r s
  | .sllXd x d => Sys2Proof.Machine.execSllXd x d s
  | .sllXdR x d r => Sys2Proof.Machine.execSllXdR x d r s
  | .srlXd x d => Sys2Proof.Machine.execSrlXd x d s
  | .srlXdR x d r => Sys2Proof.Machine.execSrlXdR x d r s
  | .bitBXd x b d => Sys2Proof.Machine.execBitBXd x b d s
  | .resBXd x b d => Sys2Proof.Machine.execResBXd x b d s
  | .resBXdR x b d r => Sys2Proof.Machine.execResBXdR x b d r s
  | .setBXd x b d => Sys2Proof.Machine.execSetBXd x b d s
  | .setBXdR x b d r => Sys2Proof.Machine.execSetBXdR x b d r s

end Sys2Proof.Machine
end

