-- ==== Sys2Proof/Machine/Fetch.lean ====
section
/-! DEFINITION. The fetch phase (30_encoding R321, R330): the fetch unit at PC in a context, and the state after its bytes are
fetched. The first byte is an M1 read except in the DD CB context (R323); the others are operand reads. -/

namespace Sys2Proof.Machine

/-- The first byte of a unit is read by `FetchOpcode`, or by `FetchByte` in the DD CB context (R323, R332). -/
def firstIsM1 : Context → Bool
  | .idxCb _ _ => false
  | _ => true

/-- Fetch the first byte of a unit. -/
def State.fetchFirst (s : State) (c : Context) : State := if firstIsM1 c then s.fetchOpcode else s.fetchByte

/-- Fetch n operand bytes. -/
def State.fetchBytes (s : State) : Nat → State
  | 0 => s
  | n + 1 => s.fetchByte.fetchBytes n

/-- Fetch the bytes of a unit of this length; an ignored prefix has none of its own (R325). -/
def State.fetchLen (s : State) (c : Context) : Nat → State
  | 0 => s
  | n + 1 => (s.fetchFirst c).fetchBytes n

/-- The unit at PC in context c: resolved from the next three bytes as they would be fetched (R321). -/
def State.unitAt (s : State) (c : Context) : FetchUnit :=
  let s1 := s.fetchFirst c
  let s2 := s1.fetchByte
  decodeUnit c (s.memVal s.pc) (s1.memVal s1.pc) (s2.memVal s2.pc)

/-- The state after the fetch of the unit at PC, its context consumed (R125). -/
def State.fetchUnit (s : State) (c : Context) : State :=
  (s.fetchLen c (s.unitAt c).len).setFetching none

/-- Start a step at a boundary: no event and no T-state yet, and `int_inhibit` NONE unless this step executes EI (R1311). -/
def State.beginStep (s : State) : State := { s with events := [], cycles := 0, intInhibit := .none }

/-- The maskable interrupt is accepted at this boundary, if no NMI is (R1312). -/
def State.intAccepted (s : State) : Bool := s.intLine && s.iff1 && s.intInhibit == .none

/-- A boundary at which the next step fetches at PC (log 11). At reset it changes nothing. -/
def State.readyToFetch (s : State) : State :=
  { s with fetching := none, halted := false, nmiPending := false, intLine := false }

/-- The n addresses from a on, modulo 65,536, as plain RAM. -/
def ramAt (a : Word) : Nat → List AddrRange
  | 0 => []
  | n + 1 => ⟨a, a⟩ :: ramAt (a + 1) n

/-- The bytes placed at PC, where memory is assumed to be plain RAM for their length (R219, log 11). -/
def State.placeAtPc (s : State) (bs : List Byte) : State :=
  { s with mem := memLoad s.mem s.pc bs, ram := ramAt s.pc bs.length ++ s.ram }

end Sys2Proof.Machine
end

