-- ==== Sys2Proof/Machine/ReadMarks.lean ====
section
/-! DEFINITION. Which registers an instruction reads and writes, for RESET_REGS = FAULT_ON_READ (10_state R130, 92 D32, log 17). A
register or flag is read when the rule's pseudocode uses its value; a flag that stays as it was is not read (R118 names the
instructions that read C). Only registers R1400 leaves unspecified are named. -/

namespace Sys2Proof.Machine

/-! ## Operand forms -/

def bcNames : List RegName := [.main .b, .main .c]
def deNames : List RegName := [.main .d, .main .e]
def hlNames : List RegName := [.main .h, .main .l]

/-- The eight flags. -/
def allFlags : List RegName := [.flag .s, .flag .z, .flag .y, .flag .h, .flag .x, .flag .pv, .flag .n, .flag .c]

/-- The eight flags of F'. -/
def shadowFlags : List RegName :=
  [.shadowFlag .s, .shadowFlag .z, .shadowFlag .y, .shadowFlag .h, .shadowFlag .x, .shadowFlag .pv, .shadowFlag .n, .shadowFlag .c]

/-- BC', DE' and HL'. -/
def shadowNames : List RegName := [.shadow .b, .shadow .c, .shadow .d, .shadow .e, .shadow .h, .shadow .l]

/-- The flags of an instruction that leaves C unchanged. -/
def flagsButC : List RegName := [.flag .s, .flag .z, .flag .y, .flag .h, .flag .x, .flag .pv, .flag .n]

/-- The flags of an instruction that leaves S, Z and PV unchanged. -/
def carryFlags : List RegName := [.flag .y, .flag .h, .flag .x, .flag .n, .flag .c]

end Sys2Proof.Machine

namespace Sys2Proof

open Sys2Proof.Machine

/-- An index register whole. -/
def Idx.names (x : Idx) : List RegName := [.half x .high, .half x .low]

/-- `r[z] or (HL)` as a source: memory is reached through HL. -/
def RegM.names : RegM → List RegName
  | .reg r => [.main r]
  | .hl => hlNames

/-- `r[z] or (HL)` as a target: memory is no register. -/
def RegM.written : RegM → List RegName
  | .reg r => [.main r]
  | .hl => []

/-- An operand of R418. -/
def RegX.name (x : Idx) : RegX → RegName
  | .b => .main .b
  | .c => .main .c
  | .d => .main .d
  | .e => .main .e
  | .xh => .half x .high
  | .xl => .half x .low
  | .a => .main .a

def Pair.names : Pair → List RegName
  | .bc => bcNames
  | .de => deNames
  | .hl => hlNames
  | .sp => [.sp]

def PairQ.names : PairQ → List RegName
  | .bc => bcNames
  | .de => deNames
  | .hl => hlNames
  | .af => .main .a :: allFlags

def PairP.names (x : Idx) : PairP → List RegName
  | .bc => bcNames
  | .de => deNames
  | .ixy => x.names
  | .sp => [.sp]

/-- The flag a condition reads (30_encoding R312). -/
def Cond.flag : Cond → Flag
  | .nz => .z
  | .z => .z
  | .nc => .c
  | .c => .c
  | .po => .pv
  | .pe => .pv
  | .p => .s
  | .m => .s

end Sys2Proof

namespace Sys2Proof.Machine

/-- SCF and CCF take Y and X from A, unless the parameter draws them (R533, R534). -/
def scfReads (s : State) : List RegName :=
  match s.params.scfCcfXy with
  | .fromA => [.main .a]
  | .any => []

/-- XOR reads A and its operand, but `XOR A` reads nothing: its result is the same "whatever A and F were" (R515), and the program P2 of
95_test_vectors runs it with A unspecified (log 17). -/
def xorReads : RegM → List RegName
  | .reg .a => []
  | m => m.names ++ [.main .a]

/-- LDIR and LDDR take Y and X from A (R701), but a step that repeats under BLOCK_REPEAT_FLAGS = ANY draws them instead (R713), and so
does not read A. The spec does not say whether it does: DESIGN CHOICE (log 17). -/
def ldirReads (s : State) : List RegName :=
  hlNames ++ deNames ++ bcNames ++ (if s.params.blockRepeatFlags = .any ∧ s.regs.bc - 1 ≠ 0 then [] else [.main .a])

end Sys2Proof.Machine

namespace Sys2Proof

open Sys2Proof.Machine

/-- The registers and flags an instruction reads, the first unwritten one of which the fault
names; a condition that fails reads no more (R1011, R1013). The exchanges read all they swap, F whole (R119, D32). `LD r,r` of one register
reads nothing, since R400 has it behave as NOP (R418 alike), although the pseudocode names `r[z]`: DESIGN CHOICE (log 17). -/
def Instr.reads (i : Instr) (s : State) : List RegName :=
  match i with
  | .nop => []
  | .ldDdNn _ _ => []
  | .ldBcA => bcNames ++ [.main .a]
  | .ldDeA => deNames ++ [.main .a]
  | .ldNnHl _ => hlNames
  | .ldNnA _ => [.main .a]
  | .incSs p => p.names
  | .decSs p => p.names
  | .incR r => [.main r]
  | .incHl => hlNames
  | .decR r => [.main r]
  | .decHl => hlNames
  | .ldRN _ _ => []
  | .ldHlN _ => hlNames
  | .rlca => [.main .a]
  | .rrca => [.main .a]
  | .rla => [.main .a, .flag .c]
  | .rra => [.main .a, .flag .c]
  | .daa => [.main .a, .flag .n, .flag .h, .flag .c]
  | .cpl => [.main .a]
  | .scf => scfReads s
  | .ccf => .flag .c :: scfReads s
  | .exAfAf => .main .a :: allFlags ++ .shadow .a :: shadowFlags
  | .ldABc => bcNames
  | .ldADe => deNames
  | .halt => []
  | .ret => [.sp]
  | .exx => bcNames ++ deNames ++ hlNames ++ shadowNames
  | .exSpHl => .sp :: hlNames
  | .jpHl => hlNames
  | .exDeHl => deNames ++ hlNames
  | .di => []
  | .ldSpHl => hlNames
  | .ei => []
  | .addHlSs p => hlNames ++ p.names
  | .ldHlInd _ => []
  | .ldANn _ => []
  | .djnz _ => [.main .b]
  | .jr _ => []
  | .jrCc cc _ => [.flag (jrCond cc).flag]
  | .ldRR dst src => if dst = src then [] else [.main src]
  | .ldRHl _ => hlNames
  | .ldHlR r => hlNames ++ [.main r]
  | .addAS m => m.names ++ [.main .a]
  | .addAN _ => [.main .a]
  | .adcAS m => m.names ++ [.main .a, .flag .c]
  | .adcAN _ => [.main .a, .flag .c]
  | .subS m => m.names ++ [.main .a]
  | .subN _ => [.main .a]
  | .sbcAS m => m.names ++ [.main .a, .flag .c]
  | .sbcAN _ => [.main .a, .flag .c]
  | .andS m => m.names ++ [.main .a]
  | .andN _ => [.main .a]
  | .xorS m => xorReads m
  | .xorN _ => [.main .a]
  | .orS m => m.names ++ [.main .a]
  | .orN _ => [.main .a]
  | .cpS m => m.names ++ [.main .a]
  | .cpN _ => [.main .a]
  | .retCc cc => .flag cc.flag :: (if condHolds cc s.regs.f then [.sp] else [])
  | .popQq _ => [.sp]
  | .jpCcNn cc _ => [.flag cc.flag]
  | .jpNn _ => []
  | .callCcNn cc _ => .flag cc.flag :: (if condHolds cc s.regs.f then [.sp] else [])
  | .pushQq q => .sp :: q.names
  | .rst _ => [.sp]
  | .callNn _ => [.sp]
  | .outNA _ => [.main .a]
  | .inAN _ => [.main .a]
  | .prefixCB => []
  | .prefixED => []
  | .prefixIdx _ => []
  | .rlcM m => m.names
  | .rrcM m => m.names
  | .rlM m => m.names ++ [.flag .c]
  | .rrM m => m.names ++ [.flag .c]
  | .slaM m => m.names
  | .sraM m => m.names
  | .sllM m => m.names
  | .srlM m => m.names
  | .bitBR _ r => [.main r]
  | .bitBHl _ => hlNames
  | .resBR _ r => [.main r]
  | .resBHl _ => hlNames
  | .setBR _ r => [.main r]
  | .setBHl _ => hlNames
  | .inRC _ => bcNames
  | .inFC => bcNames
  | .outCR r => bcNames ++ [.main r]
  | .outC0 => bcNames
  | .sbcHlSs p => hlNames ++ p.names ++ [.flag .c]
  | .adcHlSs p => hlNames ++ p.names ++ [.flag .c]
  | .ldNnDd p _ => p.names
  | .ldDdInd _ _ => []
  | .neg => [.main .a]
  | .retn => [.sp]
  | .reti => [.sp]
  | .imM _ => []
  | .ldIA => [.main .a]
  | .ldRA => [.main .a]
  | .ldAI => []
  | .ldAR => []
  | .rrd => hlNames ++ [.main .a]
  | .rld => hlNames ++ [.main .a]
  | .ldi => hlNames ++ deNames ++ bcNames ++ [.main .a]
  | .cpi => hlNames ++ bcNames ++ [.main .a]
  | .ini => hlNames ++ bcNames
  | .outi => hlNames ++ bcNames
  | .ldd => hlNames ++ deNames ++ bcNames ++ [.main .a]
  | .cpd => hlNames ++ bcNames ++ [.main .a]
  | .ind => hlNames ++ bcNames
  | .outd => hlNames ++ bcNames
  | .ldir => ldirReads s
  | .cpir => hlNames ++ bcNames ++ [.main .a]
  | .inir => hlNames ++ bcNames
  | .otir => hlNames ++ bcNames
  | .lddr => ldirReads s
  | .cpdr => hlNames ++ bcNames ++ [.main .a]
  | .indr => hlNames ++ bcNames
  | .otdr => hlNames ++ bcNames
  | .edUndefined _ => []
  | .addIxyPp x p => x.names ++ p.names x
  | .ldIxyNn _ _ => []
  | .ldNnIxy x _ => x.names
  | .incIxy x => x.names
  | .ldIxyInd _ _ => []
  | .decIxy x => x.names
  | .incXh x k => [.half x k]
  | .decXh x k => [.half x k]
  | .ldXhN _ _ _ => []
  | .incXd x _ => x.names
  | .decXd x _ => x.names
  | .ldXdN x _ _ => x.names
  | .ldRXd x _ _ => x.names
  | .ldXdR x _ r => x.names ++ [.main r]
  | .ldXh x dst src => if dst = src then [] else [src.name x]
  | .addAXh x k => .half x k :: [.main .a]
  | .addAXd x _ => x.names ++ [.main .a]
  | .adcAXh x k => .half x k :: [.main .a, .flag .c]
  | .adcAXd x _ => x.names ++ [.main .a, .flag .c]
  | .subXh x k => .half x k :: [.main .a]
  | .subXd x _ => x.names ++ [.main .a]
  | .sbcAXh x k => .half x k :: [.main .a, .flag .c]
  | .sbcAXd x _ => x.names ++ [.main .a, .flag .c]
  | .andXh x k => .half x k :: [.main .a]
  | .andXd x _ => x.names ++ [.main .a]
  | .xorXh x k => .half x k :: [.main .a]
  | .xorXd x _ => x.names ++ [.main .a]
  | .orXh x k => .half x k :: [.main .a]
  | .orXd x _ => x.names ++ [.main .a]
  | .cpXh x k => .half x k :: [.main .a]
  | .cpXd x _ => x.names ++ [.main .a]
  | .popIxy _ => [.sp]
  | .exSpIxy x => .sp :: x.names
  | .pushIxy x => .sp :: x.names
  | .jpIxy x => x.names
  | .ldSpIxy x => x.names
  | .prefixIdxCB _ _ => []
  | .overriddenByIdx _ _ => []
  | .overriddenByEd _ => []
  | .ignoredPrefix _ _ => []
  | .rlcXd x _ => x.names
  | .rlcXdR x _ _ => x.names
  | .rrcXd x _ => x.names
  | .rrcXdR x _ _ => x.names
  | .rlXd x _ => x.names ++ [.flag .c]
  | .rlXdR x _ _ => x.names ++ [.flag .c]
  | .rrXd x _ => x.names ++ [.flag .c]
  | .rrXdR x _ _ => x.names ++ [.flag .c]
  | .slaXd x _ => x.names
  | .slaXdR x _ _ => x.names
  | .sraXd x _ => x.names
  | .sraXdR x _ _ => x.names
  | .sllXd x _ => x.names
  | .sllXdR x _ _ => x.names
  | .srlXd x _ => x.names
  | .srlXdR x _ _ => x.names
  | .bitBXd x _ _ => x.names
  | .resBXd x _ _ => x.names
  | .resBXdR x _ _ _ => x.names
  | .setBXd x _ _ => x.names
  | .setBXdR x _ _ _ => x.names

/-- The registers and flags an instruction writes, besides those it has read before. `LD r,r` of one register changes nothing (R400, R418),
and so defines nothing (log 17). -/
def Instr.writes : Instr → List RegName
  | .nop => []
  | .ldDdNn p _ => p.names
  | .ldBcA => []
  | .ldDeA => []
  | .ldNnHl _ => []
  | .ldNnA _ => []
  | .incSs p => p.names
  | .decSs p => p.names
  | .incR r => .main r :: flagsButC
  | .incHl => flagsButC
  | .decR r => .main r :: flagsButC
  | .decHl => flagsButC
  | .ldRN r _ => [.main r]
  | .ldHlN _ => []
  | .rlca => .main .a :: carryFlags
  | .rrca => .main .a :: carryFlags
  | .rla => .main .a :: carryFlags
  | .rra => .main .a :: carryFlags
  | .daa => .main .a :: allFlags
  | .cpl => [.main .a, .flag .y, .flag .h, .flag .x, .flag .n]
  | .scf => carryFlags
  | .ccf => carryFlags
  | .exAfAf => []
  | .ldABc => [.main .a]
  | .ldADe => [.main .a]
  | .halt => []
  | .ret => [.sp]
  | .exx => []
  | .exSpHl => hlNames
  | .jpHl => []
  | .exDeHl => []
  | .di => []
  | .ldSpHl => [.sp]
  | .ei => []
  | .addHlSs _ => hlNames ++ carryFlags
  | .ldHlInd _ => hlNames
  | .ldANn _ => [.main .a]
  | .djnz _ => [.main .b]
  | .jr _ => []
  | .jrCc _ _ => []
  | .ldRR dst src => if dst = src then [] else [.main dst]
  | .ldRHl r => [.main r]
  | .ldHlR _ => []
  | .addAS _ => .main .a :: allFlags
  | .addAN _ => .main .a :: allFlags
  | .adcAS _ => .main .a :: allFlags
  | .adcAN _ => .main .a :: allFlags
  | .subS _ => .main .a :: allFlags
  | .subN _ => .main .a :: allFlags
  | .sbcAS _ => .main .a :: allFlags
  | .sbcAN _ => .main .a :: allFlags
  | .andS _ => .main .a :: allFlags
  | .andN _ => .main .a :: allFlags
  | .xorS _ => .main .a :: allFlags
  | .xorN _ => .main .a :: allFlags
  | .orS _ => .main .a :: allFlags
  | .orN _ => .main .a :: allFlags
  | .cpS _ => allFlags
  | .cpN _ => allFlags
  | .retCc _ => []
  | .popQq q => .sp :: q.names
  | .jpCcNn _ _ => []
  | .jpNn _ => []
  | .callCcNn _ _ => []
  | .pushQq _ => [.sp]
  | .rst _ => [.sp]
  | .callNn _ => [.sp]
  | .outNA _ => []
  | .inAN _ => [.main .a]
  | .prefixCB => []
  | .prefixED => []
  | .prefixIdx _ => []
  | .rlcM m => m.written ++ allFlags
  | .rrcM m => m.written ++ allFlags
  | .rlM m => m.written ++ allFlags
  | .rrM m => m.written ++ allFlags
  | .slaM m => m.written ++ allFlags
  | .sraM m => m.written ++ allFlags
  | .sllM m => m.written ++ allFlags
  | .srlM m => m.written ++ allFlags
  | .bitBR _ _ => flagsButC
  | .bitBHl _ => flagsButC
  | .resBR _ r => [.main r]
  | .resBHl _ => []
  | .setBR _ r => [.main r]
  | .setBHl _ => []
  | .inRC r => .main r :: flagsButC
  | .inFC => flagsButC
  | .outCR _ => []
  | .outC0 => []
  | .sbcHlSs _ => hlNames ++ allFlags
  | .adcHlSs _ => hlNames ++ allFlags
  | .ldNnDd _ _ => []
  | .ldDdInd p _ => p.names
  | .neg => .main .a :: allFlags
  | .retn => [.sp]
  | .reti => [.sp]
  | .imM _ => []
  | .ldIA => []
  | .ldRA => []
  | .ldAI => .main .a :: flagsButC
  | .ldAR => .main .a :: flagsButC
  | .rrd => .main .a :: flagsButC
  | .rld => .main .a :: flagsButC
  | .ldi => hlNames ++ deNames ++ bcNames ++ [.flag .y, .flag .h, .flag .x, .flag .pv, .flag .n]
  | .cpi => hlNames ++ bcNames ++ flagsButC
  | .ini => hlNames ++ [.main .b] ++ allFlags
  | .outi => hlNames ++ [.main .b] ++ allFlags
  | .ldd => hlNames ++ deNames ++ bcNames ++ [.flag .y, .flag .h, .flag .x, .flag .pv, .flag .n]
  | .cpd => hlNames ++ bcNames ++ flagsButC
  | .ind => hlNames ++ [.main .b] ++ allFlags
  | .outd => hlNames ++ [.main .b] ++ allFlags
  | .ldir => hlNames ++ deNames ++ bcNames ++ [.flag .y, .flag .h, .flag .x, .flag .pv, .flag .n]
  | .cpir => hlNames ++ bcNames ++ flagsButC
  | .inir => hlNames ++ [.main .b] ++ allFlags
  | .otir => hlNames ++ [.main .b] ++ allFlags
  | .lddr => hlNames ++ deNames ++ bcNames ++ [.flag .y, .flag .h, .flag .x, .flag .pv, .flag .n]
  | .cpdr => hlNames ++ bcNames ++ flagsButC
  | .indr => hlNames ++ [.main .b] ++ allFlags
  | .otdr => hlNames ++ [.main .b] ++ allFlags
  | .edUndefined _ => []
  | .addIxyPp x _ => x.names ++ carryFlags
  | .ldIxyNn x _ => x.names
  | .ldNnIxy _ _ => []
  | .incIxy x => x.names
  | .ldIxyInd x _ => x.names
  | .decIxy x => x.names
  | .incXh x k => .half x k :: flagsButC
  | .decXh x k => .half x k :: flagsButC
  | .ldXhN x k _ => [.half x k]
  | .incXd _ _ => flagsButC
  | .decXd _ _ => flagsButC
  | .ldXdN _ _ _ => []
  | .ldRXd _ r _ => [.main r]
  | .ldXdR _ _ _ => []
  | .ldXh x dst src => if dst = src then [] else [dst.name x]
  | .addAXh _ _ => .main .a :: allFlags
  | .addAXd _ _ => .main .a :: allFlags
  | .adcAXh _ _ => .main .a :: allFlags
  | .adcAXd _ _ => .main .a :: allFlags
  | .subXh _ _ => .main .a :: allFlags
  | .subXd _ _ => .main .a :: allFlags
  | .sbcAXh _ _ => .main .a :: allFlags
  | .sbcAXd _ _ => .main .a :: allFlags
  | .andXh _ _ => .main .a :: allFlags
  | .andXd _ _ => .main .a :: allFlags
  | .xorXh _ _ => .main .a :: allFlags
  | .xorXd _ _ => .main .a :: allFlags
  | .orXh _ _ => .main .a :: allFlags
  | .orXd _ _ => .main .a :: allFlags
  | .cpXh _ _ => allFlags
  | .cpXd _ _ => allFlags
  | .popIxy x => .sp :: x.names
  | .exSpIxy x => x.names
  | .pushIxy _ => [.sp]
  | .jpIxy _ => []
  | .ldSpIxy _ => [.sp]
  | .prefixIdxCB _ _ => []
  | .overriddenByIdx _ _ => []
  | .overriddenByEd _ => []
  | .ignoredPrefix _ _ => []
  | .rlcXd _ _ => allFlags
  | .rlcXdR _ _ r => .main r :: allFlags
  | .rrcXd _ _ => allFlags
  | .rrcXdR _ _ r => .main r :: allFlags
  | .rlXd _ _ => allFlags
  | .rlXdR _ _ r => .main r :: allFlags
  | .rrXd _ _ => allFlags
  | .rrXdR _ _ r => .main r :: allFlags
  | .slaXd _ _ => allFlags
  | .slaXdR _ _ r => .main r :: allFlags
  | .sraXd _ _ => allFlags
  | .sraXdR _ _ r => .main r :: allFlags
  | .sllXd _ _ => allFlags
  | .sllXdR _ _ r => .main r :: allFlags
  | .srlXd _ _ => allFlags
  | .srlXdR _ _ r => .main r :: allFlags
  | .bitBXd _ _ _ => flagsButC
  | .resBXd _ _ _ => []
  | .resBXdR _ _ _ r => [.main r]
  | .setBXd _ _ _ => []
  | .setBXdR _ _ _ r => [.main r]

end Sys2Proof

namespace Sys2Proof.Machine

/-- The marks after an instruction (R130): what it wrote is written from then on. Under DRAW there are none. -/
def State.markWritten (s : State) (i : Instr) : State :=
  match s.params.resetRegs with
  | .draw => s
  | .faultOnRead => s.setUnwritten (s.unwritten.filter fun n => decide (n ∉ i.writes))

end Sys2Proof.Machine
end

