-- ==== Sys2Proof/Machine/Sequencer.lean ====
section
/-! DEFINITION. The step algorithm (60_exceptions R1310-R1312) and the fetch state machine (30_encoding R321): a step runs fetch
units until an instruction ends the fetch phase. A chain of DD/FD prefixes that is unfinished after `Config.maxUnits` units
(and so, in plain RAM, never ends) hands back a state in the middle of its step, and the next model step goes on with it: an
infinite execution of internal moves (R322, R1460, log 9). -/

namespace Sys2Proof.Machine

/-- `exec`, with the bookkeeping of RESET_REGS = FAULT_ON_READ around it (10_state R130): a read of an unwritten register faults, and
what the instruction writes is written from then on. Under DRAW it is `exec`. -/
def runInstr (i : Instr) (s : State) : Result :=
  checkReads s (i.reads s)
    (match exec i s with
    | .next t => .next (t.markWritten i)
    | .fault e => .fault e
    | .refused e => .refused e)

/-- Run at most n fetch units of the step in progress (R321, R322). -/
def runUnits : Nat → State → Result
  | 0, s => .next s
  | n + 1, s =>
    match s.fetching with
    | none => .next s
    | some c =>
      match runInstr (s.unitAt c).instr (s.fetchUnit c) with
      | .next t => runUnits n t
      | .fault e => .fault e
      | .refused e => .refused e

/-- Execute one instruction: the fetch phase from context `none`, then its execute phase (R1310). -/
def executeStep (s : State) : Result := runUnits Config.maxUnits (s.setFetching (some .plain))

/-- `step()` (R1310) from a boundary; an unfinished prefix chain is resumed and accepts nothing (R322). -/
def coreStep (s : State) : Result :=
  match s.fetching with
  | some _ => runUnits Config.maxUnits s
  | none =>
    if s.nmiPending then acceptNmi s.beginStep
    else if s.intAccepted then acceptInt s.beginStep
    else if s.halted then haltedStep s.beginStep
    else executeStep s.beginStep

end Sys2Proof.Machine
end

