-- ==== Sys2Proof/Machine/Step.lean ====
section
/-! DEFINITION. One step of the machine (60_exceptions R1310), and the placing of one instruction where the next step fetches. -/

namespace Sys2Proof.Machine

/-- `step()` (R1310). -/
def step (s : State) : Host.Outcome State Fault Refusal := coreStep s

/-- `s` with the instruction of an opcode-table word at PC, ready for the next step to run it (log 10, log 11). -/
def State.withFetchWord (s : State) (nbits w : Nat) : State := s.readyToFetch.placeAtPc (tableBytes nbits w)

end Sys2Proof.Machine
end

