-- ==== Sys2Proof/Machine/Launch.lean ====
section
/-! DEFINITION. Runs under a host (70_reset R1450, R1460): a launch, the points of its run, its end and its hang; and the launch premises
of R1461 as predicates. -/

namespace Sys2Proof.Machine

/-! ## The host between steps (R1450) -/

/-- What the host can do at a boundary; it changes no register but by reset, and never clears `nmi_pending`. -/
inductive HostAct where
  | int (line : Bool) (v : Byte)
  | nmi
  | reset
  | poke (a : Word) (v : Byte)
  deriving DecidableEq, Repr

/-- The state after one action. -/
def State.hostAct (s : State) : HostAct → State
  | .int line v => s.hostInt line v
  | .nmi => s.hostNmi
  | .reset => s.hostReset
  | .poke a v => s.hostPoke a v

/-- A launch (R1460): the state the run starts from, what the host does before step j (the first step is 1) in the state it then finds, and
the stop address, if the launch names one. -/
structure Launch where
  start : State
  host : Nat → State → List HostAct
  stop : Option Word

/-- A point of a run: the number of the step to come or in progress, and the state. -/
structure Point where
  number : Nat
  state : State
  deriving DecidableEq, Repr

/-- The state the step of a point runs from: at a boundary after the host's actions, inside an unfinished step as it is (R322, R1460). -/
def Launch.ready (l : Launch) (p : Point) : State :=
  match p.state.fetching with
  | none => (l.host p.number p.state).foldl State.hostAct p.state
  | some _ => p.state

/-- The point after one model step; an unfinished chain of prefixes is an internal move of the same step (R1460). -/
def Launch.move (l : Launch) (p : Point) : Host.Outcome Point Fault Refusal :=
  match step (l.ready p) with
  | .next t => .next ⟨if t.fetching = none then p.number + 1 else p.number, t⟩
  | .fault e => .fault e
  | .refused e => .refused e

/-- The run: its point after n model steps, or the verdict that stopped it. -/
def Launch.point (l : Launch) : Nat → Host.Outcome Point Fault Refusal
  | 0 => .next ⟨1, l.start⟩
  | n + 1 =>
    match l.point n with
    | .next p => l.move p
    | .fault e => .fault e
    | .refused e => .refused e

/-! ## The end of a run (R1460) -/

/-- An instruction boundary: no fetch phase is unfinished (10_state R125). -/
abbrev State.atBoundary (s : State) : Prop := s.fetching = none

/-- The condition of `END_HALT`. -/
abbrev State.endHalt (s : State) : Prop :=
  s.atBoundary ∧ s.halted = true ∧ s.iff1 = false ∧ s.nmiPending = false

/-- The condition of `END_PC(stop_pc)`. -/
abbrev State.endPc (s : State) (stop : Word) : Prop := s.atBoundary ∧ s.halted = false ∧ s.pc = stop

/-- The end condition of the launch: `END_PC` if it names a stop address, else `END_HALT`. It is read after the host's actions at the
boundary, so an NMI the host requests there keeps the run going (log 18). -/
def Launch.ended (l : Launch) (p : Point) : Prop :=
  match l.stop with
  | none => (l.ready p).endHalt
  | some a => (l.ready p).endPc a

/-- The run ends at p, after n model steps: the FIRST point that meets the end condition. -/
def Launch.endsAt (l : Launch) (n : Nat) (p : Point) : Prop :=
  l.point n = .next p ∧ l.ended p ∧ ∀ m, m < n → ∀ q, l.point m = .next q → ¬l.ended q

/-- A hang: the run goes on for ever, by steps or by the internal moves of a step that never returns, and never reaches its end. -/
def Launch.hangs (l : Launch) : Prop := ∀ n, ∃ p, l.point n = .next p ∧ ¬l.ended p

/-! ## Launch premises (R1461)

A premise about every boundary of the run speaks of the boundaries after the run's end too. R1461 does not say whether it does, and R1460
says nothing of what the host does after the end: DESIGN CHOICE, safe (log 18). -/

/-- `ResetState`: every register R1400 fixes has its reset value. -/
def State.resetState (s : State) : Prop :=
  s.pc = 0 ∧ s.i = 0 ∧ s.r = 0 ∧ s.iff1 = false ∧ s.iff2 = false ∧ s.im = .im0 ∧ s.halted = false ∧
    s.intInhibit = .none ∧ s.nmiPending = false

/-- One entry of `Regs(r1 = v1, …)`. -/
inductive RegValue where
  | reg (r : Reg8) (v : Byte)
  | f (v : Byte)
  | pair (p : Pair) (v : Word)
  | shadowReg (r : Reg8) (v : Byte)
  | shadowF (v : Byte)
  | idx (x : Idx) (v : Word)
  | pc (v : Word)
  | i (v : Byte)
  | r (v : Byte)
  | iff1 (b : Bool)
  | iff2 (b : Bool)
  | im (m : IntMode)
  | halted (b : Bool)
  | intInhibit (k : IntInhibit)
  | nmiPending (b : Bool)
  deriving DecidableEq, Repr

/-- The state holds the named value. -/
def State.holds (s : State) : RegValue → Prop
  | .reg r v => s.regs.get r = v
  | .f v => s.regs.f = v
  | .pair p v => s.getPair p = v
  | .shadowReg r v => s.shadow.get r = v
  | .shadowF v => s.shadow.f = v
  | .idx x v => s.getIdx x = v
  | .pc v => s.pc = v
  | .i v => s.i = v
  | .r v => s.r = v
  | .iff1 b => s.iff1 = b
  | .iff2 b => s.iff2 = b
  | .im m => s.im = m
  | .halted b => s.halted = b
  | .intInhibit k => s.intInhibit = k
  | .nmiPending b => s.nmiPending = b

/-- The registers of an entry that reset leaves unspecified; naming them makes them defined (R130). -/
def RegValue.names : RegValue → List RegName
  | .reg q _ => [.main q]
  | .f _ => [.flag .s, .flag .z, .flag .y, .flag .h, .flag .x, .flag .pv, .flag .n, .flag .c]
  | .pair .bc _ => [.main .b, .main .c]
  | .pair .de _ => [.main .d, .main .e]
  | .pair .hl _ => [.main .h, .main .l]
  | .pair .sp _ => [.sp]
  | .shadowReg q _ => [.shadow q]
  | .shadowF _ =>
    [.shadowFlag .s, .shadowFlag .z, .shadowFlag .y, .shadowFlag .h, .shadowFlag .x, .shadowFlag .pv, .shadowFlag .n, .shadowFlag .c]
  | .idx x _ => [.half x .high, .half x .low]
  | _ => []

/-- `Regs(r1 = v1, …)`: the named registers hold the named values and are no longer unspecified; the others stay as they are. -/
def State.regsHold (s : State) (l : List RegValue) : Prop := ∀ v ∈ l, s.holds v ∧ ∀ n ∈ v.names, n ∉ s.unwritten

/-- The inputs of `Quiet` at one boundary. -/
abbrev State.quiet (s : State) : Prop := s.intLine = false ∧ s.nmiPending = false

/-- `Quiet`: at every boundary of the run, those after its end included (DESIGN CHOICE, log 18). -/
def Launch.quiet (l : Launch) : Prop :=
  ∀ n p, l.point n = .next p → p.state.atBoundary → (l.ready p).quiet

/-- The byte listed for an address, 0x00 if none is. -/
def listedByte : List (Word × Byte) → Word → Byte
  | [], _ => 0
  | (b, v) :: rest, a => if b = a then v else listedByte rest a

/-- Addresses lo to hi are plain RAM (20_memory R219). -/
def State.ramOn (s : State) (lo hi : Word) : Prop :=
  ∀ a : Word, lo.toNat ≤ a.toNat → a.toNat ≤ hi.toNat → s.isRam a = true

/-- What `RAM(lo, hi)` says of one state: plain RAM there, holding the bytes listed and 0x00 elsewhere. -/
def State.ramHolds (s : State) (lo hi : Word) (cells : List (Word × Byte)) : Prop :=
  s.ramOn lo hi ∧ ∀ a : Word, lo.toNat ≤ a.toNat → a.toNat ≤ hi.toNat → memRead s.mem a.toNat = listedByte cells a

/-- A state of which `RAM(lo, hi)` is assumed, these bytes placed in it: how a program comes into memory (log 11). -/
def State.withRam (s : State) (lo hi : Word) (cells : List (Word × Byte)) : State :=
  { s with ram := ⟨lo, hi⟩ :: s.ram, mem := cells.foldl (fun m c => memWrite m c.1.toNat c.2) s.mem }

/-- The premise `RAM(lo, hi)` of a launch: so at its start, and the host writes nothing there between steps, so that a read returns the
last byte the core wrote or the launch contents (20_memory R219, R213); after the run's end too (DESIGN CHOICE, log 18). -/
def Launch.ram (l : Launch) (lo hi : Word) (cells : List (Word × Byte)) : Prop :=
  l.start.ramHolds lo hi cells ∧
    ∀ n p, l.point n = .next p → p.state.atBoundary → ∀ a v, .poke a v ∈ l.host p.number p.state → a.toNat < lo.toNat ∨ hi.toNat < a.toNat

/-- `Ports(p = v, …)`: port p answers v to every read, and every other port 0xFF. -/
def State.portsAnswer (s : State) (l : List (Word × Byte)) : Prop := s.ports = some l

/-- The last step acknowledged a maskable interrupt. -/
def State.ackedInt (s : State) : Bool :=
  s.events.any fun
    | .intAck .nmi => false
    | .intAck _ => true
    | _ => false

/-- By the n-th point, a step numbered k or more has acknowledged a maskable interrupt. -/
def Launch.ackedBy (l : Launch) (k n : Nat) : Prop :=
  ∃ m ≤ n, ∃ q, l.point m = .next q ∧ q.state.atBoundary ∧ k < q.number ∧ q.state.ackedInt = true

/-- `IntAt(k, v)`: at every boundary of the run `int_line` is 1, with `int_data` = v, from step k until such an acknowledge, and else 0;
after the run's end too (DESIGN CHOICE, log 18). -/
def Launch.intAt (l : Launch) (k : Nat) (v : Byte) : Prop :=
  ∀ n p, l.point n = .next p → p.state.atBoundary →
    ((l.ready p).intLine = true ↔ k ≤ p.number ∧ ¬l.ackedBy k n) ∧ ((l.ready p).intLine = true → (l.ready p).intData = v)

/-- `NmiAt(k)`: at every boundary of the run `nmi_pending` is set before step k and at no other; after the run's end
too (DESIGN CHOICE, log 18). -/
def Launch.nmiAt (l : Launch) (k : Nat) : Prop :=
  ∀ n p, l.point n = .next p → p.state.atBoundary → ((l.ready p).nmiPending = true ↔ p.number = k)

/-- What a host that drives the inputs does. -/
inductive Drive where
  | intAt (k : Nat) (v : Byte)
  | nmiAt (k : Nat)
  deriving DecidableEq, Repr

/-- The action of one entry before step j. -/
def Drive.before (j : Nat) : Drive → List HostAct
  | .intAt k v => if j = k then [.int true v] else []
  | .nmiAt k => if j = k then [.nmi] else []

/-- A host of `IntAt` and `NmiAt`: before step j it lowers a line that was just acknowledged (and starts with it low), then acts as the
entries say, and does nothing else. -/
def drive (ds : List Drive) (j : Nat) (s : State) : List HostAct :=
  (if j = 1 ∨ s.ackedInt = true then [.int false s.intData] else []) ++ ds.flatMap (Drive.before j)

/-- `NoFault`: no read-before-write fault in the run (10_state R130), nor after its end (DESIGN CHOICE, log 18). -/
def Launch.noFault (l : Launch) : Prop := ∀ n e, l.point n ≠ .fault e

end Sys2Proof.Machine
end

