-- ==== Sys2Proof/Safety.lean ====
section
/-! DEFINITION. What counts as safe: a state whose step goes on, and a run that no verdict stops (60 R1301, R1330). Ends, hangs and launch
premises of runs are in Machine/Launch.lean. -/

namespace Sys2Proof.Machine

/-- The step from this state is not refused and does not fault (60 R1301, R1330). -/
def State.safe (s : State) : Prop := ∃ t, step s = .next t

/-- No step of the run is refused or faults. -/
def Launch.safe (l : Launch) : Prop := ∀ n, ∃ p, l.point n = .next p

end Sys2Proof.Machine
end

