-- ==== Sys2Proof/Certificates/Slice0/Obligations.lean ====
section
/-! DEFINITION. The statements for the provers, with the words they are written in. Every statement about an instruction concludes
that `exec` ANSWERS a next state, says what that state holds, and (by giving the whole record) what is unchanged. Results are
written on exact integers and bits, apart from the model's own flag routines. `draws` is the model's own count of free values
(log 7): no statement says what a free value is. -/

namespace Sys2Proof.Claims

open Sys2Proof.Machine

/-! ## Words of the statements -/

/-- The eight bits of a flag byte, in the order of 10_state R110. -/
def FlagsAre (f : Byte) (s z y h x pv n c : Bool) : Prop :=
  f.getLsbD 7 = s ∧ f.getLsbD 6 = z ∧ f.getLsbD 5 = y ∧ f.getLsbD 4 = h ∧ f.getLsbD 3 = x ∧ f.getLsbD 2 = pv ∧
    f.getLsbD 1 = n ∧ f.getLsbD 0 = c

/-- The byte has an even number of one bits (41_alu8 R506). -/
def evenOnes (v : Byte) : Bool := decide (((List.range 8).filter fun k => v.getLsbD k).length % 2 = 0)

/-- A signed result that does not fit a byte. -/
def overflows8 (t : Int) : Bool := decide (t < -128 ∨ 127 < t)

/-- A signed result that does not fit a word. -/
def overflows16 (t : Int) : Bool := decide (t < -32768 ∨ 32767 < t)

/-- The registers of `t` are those of `s`, but `r` holds `v`; F is unchanged. -/
def OnlyReg (s t : RegFile) (r : Reg8) (v : Byte) : Prop := (∀ q, t.get q = if q = r then v else s.get q) ∧ t.f = s.f

/-- The registers of `t` are those of `s` but for A and F. -/
def OnlyAF (s t : RegFile) (a : Byte) : Prop := t = { s with a := a, f := t.f }

/-- After memory `m` replaces that of `s`: the byte `v` stands at `a` where that is plain RAM (20_memory R213, R219), and every
other byte reads as before. -/
def StoredByte (s : State) (m : List Host.Cell) (a : Word) (v : Byte) : Prop :=
  memRead m a.toNat = (if s.isRam a then v else memRead s.mem a.toNat) ∧ ∀ b : Nat, b ≠ a.toNat → memRead m b = memRead s.mem b

/-- The same for two bytes, `lo` at `a` and `hi` at `a + 1` modulo 65,536 (20_memory R202, R203). -/
def StoredWord (s : State) (m : List Host.Cell) (a : Word) (lo hi : Byte) : Prop :=
  memRead m a.toNat = (if s.isRam a then lo else memRead s.mem a.toNat) ∧
    memRead m (a + 1).toNat = (if s.isRam (a + 1) then hi else memRead s.mem (a + 1).toNat) ∧
    ∀ b : Nat, b ≠ a.toNat → b ≠ (a + 1).toNat → memRead m b = memRead s.mem b

/-- `trunc_16(IXY + sext_16(d))` (30_encoding R313). -/
def effective (s : State) (x : Idx) (d : Byte) : Word := BitVec.ofInt 16 ((s.getIdx x).toNat + d.toInt)

/-- Instruction `i` runs from `s`: only main registers change, in n T-states, with these events. -/
def RunsRegs (i : Instr) (s : State) (n : Nat) (ev : List Event) (P : RegFile → Prop) : Prop :=
  ∃ t, exec i s = .next t ∧
    t = { s with regs := t.regs, draws := t.draws, cycles := s.cycles + n, events := s.events ++ ev } ∧ P t.regs

/-- Instruction `i` runs from `s`: only main registers and memory change, in n T-states, with these events. -/
def RunsMem (i : Instr) (s : State) (n : Nat) (ev : List Event) (P : RegFile → List Host.Cell → Prop) : Prop :=
  ∃ t, exec i s = .next t ∧
    t = { s with regs := t.regs, mem := t.mem, draws := t.draws, cycles := s.cycles + n, events := s.events ++ ev } ∧
    P t.regs t.mem

/-- Instruction `i` runs from `s`: only main registers and the index registers change. -/
def RunsIdx (i : Instr) (s : State) (n : Nat) (ev : List Event) (P : State → Prop) : Prop :=
  ∃ t, exec i s = .next t ∧
    t = { s with regs := t.regs, ix := t.ix, iy := t.iy, draws := t.draws, cycles := s.cycles + n, events := s.events ++ ev } ∧ P t

/-- In `t` half `k` of index register `x` holds `v`; the other half and the other index register are those of `s`. -/
def HalfWritten (s t : State) (x : Idx) (k : Half) (v : Byte) : Prop :=
  hiByte (t.getIdx x) = (if k = .high then v else hiByte (s.getIdx x)) ∧
    loByte (t.getIdx x) = (if k = .low then v else loByte (s.getIdx x)) ∧ ∀ y, y ≠ x → t.getIdx y = s.getIdx y

/-- In `t` index register `x` holds `v` and the other is that of `s`. -/
def IdxWritten (s t : State) (x : Idx) (v : Word) : Prop := ∀ y, t.getIdx y = if y = x then v else s.getIdx y

/-- The half of an index register. -/
def halfOf (w : Word) : Half → Byte
  | .high => hiByte w
  | .low => loByte w

/-- The whole of F replaced, every other main register kept. -/
def OnlyF (s t : RegFile) : Prop := t = { s with f := t.f }

/-- R after n opcode fetches (10_state R123): bit 7 kept, the low seven bits counted modulo 128. -/
def refreshCount (r : Byte) (n : Nat) : Byte := BitVec.ofNat 8 (r.toNat / 128 * 128 + (r.toNat % 128 + n) % 128)

/-- A condition on a flag byte (30_encoding R312). -/
def holds : Cond → Byte → Bool
  | .nz, f => f.getLsbD 6 == false
  | .z, f => f.getLsbD 6 == true
  | .nc, f => f.getLsbD 0 == false
  | .c, f => f.getLsbD 0 == true
  | .po, f => f.getLsbD 2 == false
  | .pe, f => f.getLsbD 2 == true
  | .p, f => f.getLsbD 7 == false
  | .m, f => f.getLsbD 7 == true

/-- The four conditions of JR (30_encoding R305). -/
def holdsJr : CondJr → Byte → Bool
  | .nz, f => f.getLsbD 6 == false
  | .z, f => f.getLsbD 6 == true
  | .nc, f => f.getLsbD 0 == false
  | .c, f => f.getLsbD 0 == true

/-- `trunc_16(PC + sext_16(e))` (30_encoding R313). -/
def relative (s : State) (e : Byte) : Word := BitVec.ofInt 16 (s.pc.toNat + e.toInt)

/-- The events of a two-byte read at `a`. -/
def reads2 (a : Word) (lo hi : Byte) : List Event := [.read a lo, .read (a + 1) hi]

/-- The events of a push below `sp` (20_memory R210): high byte first, at SP - 1. -/
def pushes (sp v : Word) : List Event := [.write (sp - 1) (hiByte v), .write (sp - 2) (loByte v)]

/-! ## The operand forms of the eight ALU operations (41_alu8 R507) -/

/-- A source operand. -/
inductive Src where
  | reg (r : Reg8)
  | hl
  | imm (n : Byte)
  | half (x : Idx) (k : Half)
  | idx (x : Idx) (d : Byte)
  deriving DecidableEq, Repr

/-- The value of a source operand. -/
def Src.val (s : State) : Src → Byte
  | .reg r => s.regs.get r
  | .hl => s.memVal s.regs.hl
  | .imm n => n
  | .half x k => halfOf (s.getIdx x) k
  | .idx x d => s.memVal (effective s x d)

/-- The T-states of an operand form. -/
def Src.cost : Src → Nat
  | .reg _ => 4
  | .hl => 7
  | .imm _ => 7
  | .half _ _ => 8
  | .idx _ _ => 19

/-- The data accesses of an operand form. -/
def Src.accesses (s : State) : Src → List Event
  | .hl => [.read s.regs.hl (s.memVal s.regs.hl)]
  | .idx x d => [.read (effective s x d) (s.memVal (effective s x d))]
  | _ => []

/-- `ADD A,s`. -/
def addOf : Src → Instr
  | .reg r => .addAS (.reg r)
  | .hl => .addAS .hl
  | .imm n => .addAN n
  | .half x k => .addAXh x k
  | .idx x d => .addAXd x d

/-- `ADC A,s`. -/
def adcOf : Src → Instr
  | .reg r => .adcAS (.reg r)
  | .hl => .adcAS .hl
  | .imm n => .adcAN n
  | .half x k => .adcAXh x k
  | .idx x d => .adcAXd x d

/-- `SUB s`. -/
def subOf : Src → Instr
  | .reg r => .subS (.reg r)
  | .hl => .subS .hl
  | .imm n => .subN n
  | .half x k => .subXh x k
  | .idx x d => .subXd x d

/-- `SBC A,s`. -/
def sbcOf : Src → Instr
  | .reg r => .sbcAS (.reg r)
  | .hl => .sbcAS .hl
  | .imm n => .sbcAN n
  | .half x k => .sbcAXh x k
  | .idx x d => .sbcAXd x d

/-- `AND s`. -/
def andOf : Src → Instr
  | .reg r => .andS (.reg r)
  | .hl => .andS .hl
  | .imm n => .andN n
  | .half x k => .andXh x k
  | .idx x d => .andXd x d

/-- `XOR s`. -/
def xorOf : Src → Instr
  | .reg r => .xorS (.reg r)
  | .hl => .xorS .hl
  | .imm n => .xorN n
  | .half x k => .xorXh x k
  | .idx x d => .xorXd x d

/-- `OR s`. -/
def orOf : Src → Instr
  | .reg r => .orS (.reg r)
  | .hl => .orS .hl
  | .imm n => .orN n
  | .half x k => .orXh x k
  | .idx x d => .orXd x d

/-- `CP s`. -/
def cpOf : Src → Instr
  | .reg r => .cpS (.reg r)
  | .hl => .cpS .hl
  | .imm n => .cpN n
  | .half x k => .cpXh x k
  | .idx x d => .cpXd x d

/-- The sum a + b + cin and its flags (41_alu8 R501), V as the exact signed sum leaving -128 to 127. -/
def SumFlags (a b : Byte) (cin : Bool) (r f : Byte) : Prop :=
  r.toNat = (a.toNat + b.toNat + cin.toNat) % 256 ∧
    FlagsAre f (decide (128 ≤ r.toNat)) (decide (r.toNat = 0)) (r.getLsbD 5)
      (decide (15 < a.toNat % 16 + b.toNat % 16 + cin.toNat)) (r.getLsbD 3)
      (overflows8 (a.toInt + b.toInt + cin.toNat)) false (decide (255 < a.toNat + b.toNat + cin.toNat))

/-- The difference a - b - cin and its flags (41_alu8 R502), V as the exact signed difference leaving -128 to 127. -/
def DifferenceFlags (a b : Byte) (cin : Bool) (r f : Byte) : Prop :=
  r.toNat = (256 + 256 + a.toNat - b.toNat - cin.toNat) % 256 ∧
    FlagsAre f (decide (128 ≤ r.toNat)) (decide (r.toNat = 0)) (r.getLsbD 5)
      (decide (a.toNat % 16 < b.toNat % 16 + cin.toNat)) (r.getLsbD 3)
      (overflows8 (a.toInt - b.toInt - cin.toNat)) true (decide (a.toNat < b.toNat + cin.toNat))

/-- The flags of a logic result (41_alu8 R503). -/
def LogicFlags (r f : Byte) (h : Bool) : Prop :=
  FlagsAre f (r.getLsbD 7) (decide (r = 0)) (r.getLsbD 5) h (r.getLsbD 3) (evenOnes r) false false

/-- The flags of a rotated byte (41_alu8 R504). -/
def RotateFlags (r f : Byte) (co : Bool) : Prop :=
  FlagsAre f (r.getLsbD 7) (decide (r = 0)) (r.getLsbD 5) false (r.getLsbD 3) (evenOnes r) false co

/-- The result and flags of an 8-bit increment (41_alu8 R505, R520), C kept. -/
def IncFlags (v w f0 f : Byte) : Prop :=
  w.toNat = (v.toNat + 1) % 256 ∧
    FlagsAre f (w.getLsbD 7) (decide (w = 0)) (w.getLsbD 5) (decide (v.toNat % 16 = 15)) (w.getLsbD 3) (decide (v = 0x7F)) false
      (f0.getLsbD 0)

/-- The result and flags of an 8-bit decrement (41_alu8 R505, R524), C kept. -/
def DecFlags (v w f0 f : Byte) : Prop :=
  w.toNat = (v.toNat + 255) % 256 ∧
    FlagsAre f (w.getLsbD 7) (decide (w = 0)) (w.getLsbD 5) (decide (v.toNat % 16 = 0)) (w.getLsbD 3) (decide (v = 0x80)) true
      (f0.getLsbD 0)

end Sys2Proof.Claims

open Sys2Proof Sys2Proof.Machine Sys2Proof.Claims

/-! ## 40_load_exchange -/

/-- R400-R403, R408-R410: an 8-bit load writes one register, no flag and nothing else. -/
def Obligations.ByteLoadsWriteOneRegister : Prop :=
  ∀ (s : State) (r r' : Reg8) (n : Byte) (x : Idx) (d : Byte) (nn : Word),
    let from8 (i : Instr) (q : Reg8) (v : Byte) (cyc : Nat) := RunsRegs i s cyc [] fun g => OnlyReg s.regs g q v
    let fromMem (i : Instr) (q : Reg8) (a : Word) (cyc : Nat) :=
      RunsRegs i s cyc [.read a (s.memVal a)] fun g => OnlyReg s.regs g q (s.memVal a)
    from8 (.ldRR r r') r (s.regs.get r') 4 ∧ from8 (.ldRN r n) r n 7 ∧
      fromMem (.ldRHl r) r (word s.regs.h s.regs.l) 7 ∧ fromMem (.ldRXd x r d) r (effective s x d) 19 ∧
      fromMem .ldABc .a (word s.regs.b s.regs.c) 7 ∧ fromMem .ldADe .a (word s.regs.d s.regs.e) 7 ∧
      fromMem (.ldANn nn) .a nn 13

/-- R404-R407, R411-R413: an 8-bit store writes one byte of memory at the operand's address, and no register or flag. -/
def Obligations.ByteStoresWriteOneByte : Prop :=
  ∀ (s : State) (r : Reg8) (n : Byte) (x : Idx) (d : Byte) (nn : Word), Memory.wf s.mem →
    let store (i : Instr) (a : Word) (v : Byte) (cyc : Nat) :=
      RunsMem i s cyc [.write a v] fun g m => g = s.regs ∧ StoredByte s m a v
    store (.ldHlR r) (word s.regs.h s.regs.l) (s.regs.get r) 7 ∧ store (.ldXdR x d r) (effective s x d) (s.regs.get r) 19 ∧
      store (.ldHlN n) (word s.regs.h s.regs.l) n 10 ∧ store (.ldXdN x d n) (effective s x d) n 19 ∧
      store .ldBcA (word s.regs.b s.regs.c) s.regs.a 7 ∧ store .ldDeA (word s.regs.d s.regs.e) s.regs.a 7 ∧
      store (.ldNnA nn) nn s.regs.a 13

/-- R414-R417: `LD A,I` and `LD A,R` load A and set S, Z, Y, X from the value, PV to IFF2 (but under the quirk of R1328, where it is a
free value), H and N to 0, and keep C; `LD I,A` writes I and `LD R,A` all eight bits of R, and nothing else changes. -/
def Obligations.TransfersWithIAndR : Prop :=
  ∀ s : State,
    let load (i : Instr) (v : Byte) := RunsRegs i s 9 [] fun g => OnlyAF s.regs g v ∧ ∃ pv,
      FlagsAre g.f (v.getLsbD 7) (decide (v = 0)) (v.getLsbD 5) false (v.getLsbD 3) pv false (s.regs.f.getLsbD 0) ∧
        (¬(s.params.ldAIrQuirk = .any ∧ s.intLine = true ∧ s.iff1 = true) → pv = s.iff2)
    load .ldAI s.i ∧ load .ldAR s.r ∧ exec .ldIA s = .next { s with i := s.regs.a, cycles := s.cycles + 9 } ∧
      exec .ldRA s = .next { s with r := s.regs.a, cycles := s.cycles + 9 }

/-- R418, R419: 8-bit loads on the halves of IX and IY. In R418 operand 4 is IXYH and 5 is IXYL on both sides; H and L are
neither read nor written. -/
def Obligations.IndexHalfLoads : Prop :=
  ∀ (s : State) (x : Idx) (dst src : RegX) (k : Half) (n : Byte),
    (RunsIdx (.ldXh x dst src) s 8 [] fun t =>
      (∀ q, t.getRegX x q = if q = dst then s.getRegX x src else s.getRegX x q) ∧
        t.regs.h = s.regs.h ∧ t.regs.l = s.regs.l ∧ t.regs.f = s.regs.f ∧ ∀ y, y ≠ x → t.getIdx y = s.getIdx y) ∧
    RunsIdx (.ldXhN x k n) s 11 [] fun t => t.regs = s.regs ∧ HalfWritten s t x k n

/-- R420, R422, R424, R428: 16-bit loads of BC, DE, HL and SP write the pair alone; from memory, low byte first. -/
def Obligations.PairLoads : Prop :=
  ∀ (s : State) (p : Pair) (nn : Word),
    let load (i : Instr) (q : Pair) (v : Word) (cyc : Nat) (ev : List Event) := ∃ t, exec i s = .next t ∧
      t = { s with regs := t.regs, sp := t.sp, draws := t.draws, cycles := s.cycles + cyc, events := s.events ++ ev } ∧
        (∀ k, t.getPair k = if k = q then v else s.getPair k) ∧ t.regs.a = s.regs.a ∧ t.regs.f = s.regs.f
    let lo := s.memVal nn
    let hi := (s.readDone nn).memVal (nn + 1)
    load (.ldDdNn p nn) p nn 10 [] ∧ load (.ldDdInd p nn) p (word hi lo) 20 (reads2 nn lo hi) ∧
      load (.ldHlInd nn) .hl (word hi lo) 16 (reads2 nn lo hi) ∧ load .ldSpHl .sp (word s.regs.h s.regs.l) 6 []

/-- R421, R423, R429: 16-bit loads of IX and IY, and of SP from them. -/
def Obligations.IndexLoads : Prop :=
  ∀ (s : State) (x : Idx) (nn : Word),
    let lo := s.memVal nn
    let hi := (s.readDone nn).memVal (nn + 1)
    (RunsIdx (.ldIxyNn x nn) s 14 [] fun t => t.regs = s.regs ∧ IdxWritten s t x nn) ∧
      (RunsIdx (.ldIxyInd x nn) s 20 (reads2 nn lo hi) fun t => t.regs = s.regs ∧ IdxWritten s t x (word hi lo)) ∧
      exec (.ldSpIxy x) s = .next { s with sp := s.getIdx x, cycles := s.cycles + 10 }

/-- R425-R427: 16-bit stores write the low byte at nn and the high byte at nn + 1 modulo 65,536, and nothing else. -/
def Obligations.WordStoresAreLittleEndian : Prop :=
  ∀ (s : State) (x : Idx) (p : Pair) (nn : Word), Memory.wf s.mem →
    let store (i : Instr) (v : Word) (cyc : Nat) :=
      RunsMem i s cyc [.write nn (loByte v), .write (nn + 1) (hiByte v)] fun g m =>
        g = s.regs ∧ StoredWord s m nn (loByte v) (hiByte v)
    store (.ldNnHl nn) (word s.regs.h s.regs.l) 16 ∧ store (.ldNnIxy x nn) (s.getIdx x) 20 ∧ store (.ldNnDd p nn) (s.getPair p) 20

/-- R430, R431: a push lowers SP by 2 and stores the word there, high byte first; no other byte and no flag changes. -/
def Obligations.PushStoresBelowSp : Prop :=
  ∀ (s : State) (q : PairQ) (x : Idx), Memory.wf s.mem →
    let push (i : Instr) (v : Word) (cyc : Nat) := ∃ t, exec i s = .next t ∧
      t = { s with sp := s.sp - 2, mem := t.mem, cycles := s.cycles + cyc, events := s.events ++ pushes s.sp v } ∧
        StoredWord s t.mem (s.sp - 2) (loByte v) (hiByte v)
    push (.pushQq q) (s.getPairQ q) 11 ∧ push (.pushIxy x) (s.getIdx x) 15

/-- R432, R433: a pop reads the word at SP, low byte first, and raises SP by 2. POP AF alone writes F, all eight bits. -/
def Obligations.PopLoadsFromSp : Prop :=
  ∀ (s : State) (q : PairQ) (x : Idx),
    let lo := s.memVal s.sp
    let hi := (s.readDone s.sp).memVal (s.sp + 1)
    let pop (i : Instr) (cyc : Nat) (P : State → Prop) := ∃ t, exec i s = .next t ∧
      t = { s with
        regs := t.regs, ix := t.ix, iy := t.iy, sp := s.sp + 2, draws := t.draws, cycles := s.cycles + cyc
        events := s.events ++ reads2 s.sp lo hi } ∧ P t
    pop (.popQq q) 10 (fun t => t.ix = s.ix ∧ t.iy = s.iy ∧
        ∀ k, t.getPairQ k = if k = q then word hi lo else s.getPairQ k) ∧
      pop (.popIxy x) 14 fun t => t.regs = s.regs ∧ IdxWritten s t x (word hi lo)

/-- R430, R432: what a push stores, a pop right after it loads, from plain RAM; SP is back and so is every byte outside the two. -/
def Obligations.PopAfterPushRestores : Prop :=
  ∀ (s t : State) (q : PairQ), Memory.wf s.mem → s.isRam (s.sp - 1) = true → s.isRam (s.sp - 2) = true →
    exec (.pushQq q) s = .next t → ∀ q', ∃ u, exec (.popQq q') t = .next u ∧ u.getPairQ q' = s.getPairQ q ∧ u.sp = s.sp ∧
      (∀ k, k ≠ q' → u.getPairQ k = s.getPairQ k) ∧
      ∀ a : Nat, a ≠ (s.sp - 1).toNat → a ≠ (s.sp - 2).toNat → memRead u.mem a = memRead s.mem a

/-- R440-R442: the exchanges swap whole registers and touch nothing else; each done twice restores the state (but for the
T-states). -/
def Obligations.ExchangesSwapAndUndo : Prop :=
  (∀ s : State, exec .exDeHl s = .next { s with
      regs := { s.regs with d := s.regs.h, e := s.regs.l, h := s.regs.d, l := s.regs.e }, cycles := s.cycles + 4 }) ∧
    (∀ s : State, exec .exAfAf s = .next { s with
      regs := { s.regs with a := s.shadow.a, f := s.shadow.f }
      shadow := { s.shadow with a := s.regs.a, f := s.regs.f }, cycles := s.cycles + 4 }) ∧
    (∀ s : State, exec .exx s = .next { s with
      regs := { s.shadow with a := s.regs.a, f := s.regs.f }
      shadow := { s.regs with a := s.shadow.a, f := s.shadow.f }, cycles := s.cycles + 4 }) ∧
    ∀ i ∈ [Instr.exDeHl, .exAfAf, .exx], ∀ s t : State, exec i s = .next t → exec i t = .next { s with cycles := s.cycles + 8 }

/-- R443, R444: `EX (SP),rr` swaps the register with the word at SP, SP unchanged: two reads, then the high byte is written. -/
def Obligations.ExchangeWithStackTop : Prop :=
  ∀ (s : State) (x : Idx), Memory.wf s.mem →
    let lo := s.memVal s.sp
    let hi := (s.readDone s.sp).memVal (s.sp + 1)
    let swap (i : Instr) (v : Word) (cyc : Nat) (P : State → Prop) := ∃ t, exec i s = .next t ∧
      t = { s with
        regs := t.regs, ix := t.ix, iy := t.iy, mem := t.mem, draws := t.draws, cycles := s.cycles + cyc
        events := s.events ++ reads2 s.sp lo hi ++ [.write (s.sp + 1) (hiByte v), .write s.sp (loByte v)] } ∧
        StoredWord s t.mem s.sp (loByte v) (hiByte v) ∧ P t
    swap .exSpHl (word s.regs.h s.regs.l) 19 (fun t => t.regs = { s.regs with h := hi, l := lo } ∧ t.ix = s.ix ∧ t.iy = s.iy) ∧
      swap (.exSpIxy x) (s.getIdx x) 23 fun t => t.regs = s.regs ∧ IdxWritten s t x (word hi lo)

/-! ## 41_alu8 -/

/-- R501, R510, R511: ADD and ADC in the five operand forms: A takes the sum, F all eight flags of it; nothing else changes. -/
def Obligations.AddAndAdcSumIntoA : Prop :=
  ∀ (s : State) (o : Src),
    (RunsRegs (addOf o) s o.cost (o.accesses s) fun g => OnlyAF s.regs g g.a ∧ SumFlags s.regs.a (o.val s) false g.a g.f) ∧
      RunsRegs (adcOf o) s o.cost (o.accesses s) fun g =>
        OnlyAF s.regs g g.a ∧ SumFlags s.regs.a (o.val s) (s.regs.f.getLsbD 0) g.a g.f

/-- R502, R512, R513: SUB and SBC in the five operand forms: A takes the difference, F all eight flags of it; nothing else changes. -/
def Obligations.SubAndSbcSubtractFromA : Prop :=
  ∀ (s : State) (o : Src),
    (RunsRegs (subOf o) s o.cost (o.accesses s) fun g =>
      OnlyAF s.regs g g.a ∧ DifferenceFlags s.regs.a (o.val s) false g.a g.f) ∧
      RunsRegs (sbcOf o) s o.cost (o.accesses s) fun g =>
        OnlyAF s.regs g g.a ∧ DifferenceFlags s.regs.a (o.val s) (s.regs.f.getLsbD 0) g.a g.f

/-- R503, R514-R516: AND, XOR and OR in the five operand forms: A takes the result, PV its parity, H is 1 for AND alone, N and C are 0;
nothing else changes. -/
def Obligations.LogicOperationsSetParity : Prop :=
  ∀ (s : State) (o : Src),
    let logic (i : Instr) (r : Byte) (h : Bool) :=
      RunsRegs i s o.cost (o.accesses s) fun g => OnlyAF s.regs g r ∧ LogicFlags r g.f h
    logic (andOf o) (s.regs.a &&& o.val s) true ∧ logic (xorOf o) (s.regs.a ^^^ o.val s) false ∧
      logic (orOf o) (s.regs.a ||| o.val s) false

/-- R517: CP sets the flags of the subtraction but Y and X, which come from the operand, and writes no register but F. -/
def Obligations.CompareTakesYXFromOperand : Prop :=
  ∀ (s : State) (o : Src),
    RunsRegs (cpOf o) s o.cost (o.accesses s) fun g => OnlyF s.regs g ∧
      let a := s.regs.a
      let v := o.val s
      FlagsAre g.f ((a - v).getLsbD 7) (decide (a = v)) (v.getLsbD 5) (decide (a.toNat % 16 < v.toNat % 16)) (v.getLsbD 3)
        (overflows8 (a.toInt - v.toInt)) true (decide (a.toNat < v.toNat))

/-- R505, R520-R527: 8-bit INC and DEC on a register, on memory and on an index half; C is kept. -/
def Obligations.ByteIncrementAndDecrement : Prop :=
  ∀ (s : State) (r : Reg8) (x : Idx) (k : Half) (d : Byte), Memory.wf s.mem →
    let unit (F : Byte → Byte → Byte → Byte → Prop) (iR iHl iXd iXh : Instr) :=
      (RunsRegs iR s 4 [] fun g => ∃ w, F (s.regs.get r) w s.regs.f g.f ∧ OnlyReg s.regs { g with f := s.regs.f } r w) ∧
      (∃ w, RunsMem iHl s 11 [.read s.regs.hl (s.memVal s.regs.hl), .write s.regs.hl w] fun g m =>
        F (s.memVal s.regs.hl) w s.regs.f g.f ∧ OnlyF s.regs g ∧ StoredByte s m s.regs.hl w) ∧
      (∃ w, RunsMem iXd s 23
          [.read (effective s x d) (s.memVal (effective s x d)), .write (effective s x d) w] fun g m =>
        F (s.memVal (effective s x d)) w s.regs.f g.f ∧ OnlyF s.regs g ∧ StoredByte s m (effective s x d) w) ∧
      RunsIdx iXh s 8 [] fun t => ∃ w, F (halfOf (s.getIdx x) k) w s.regs.f t.regs.f ∧ OnlyF s.regs t.regs ∧ HalfWritten s t x k w
    unit IncFlags (.incR r) .incHl (.incXd x d) (.incXh x k) ∧ unit DecFlags (.decR r) .decHl (.decXd x d) (.decXh x k)

/-- R530: DAA as the rule gives it, for every A and F: the correction, the half carry by N, parity, and C never going from 1 to 0. -/
def Obligations.DaaAdjustsEveryInput : Prop :=
  ∀ s : State, RunsRegs .daa s 4 [] fun g =>
    let a := s.regs.a.toNat
    let n := s.regs.f.getLsbD 1
    let h := s.regs.f.getLsbD 4
    let c := s.regs.f.getLsbD 0 || decide (a > 0x99)
    let diff := (if c then 0x60 else 0) + (if h || decide (a % 16 > 9) then 6 else 0)
    g.a.toNat = (if n then 256 + a - diff else a + diff) % 256 ∧ OnlyAF s.regs g g.a ∧
      FlagsAre g.f (g.a.getLsbD 7) (decide (g.a = 0)) (g.a.getLsbD 5)
        (if n then h && decide (a % 16 < 6) else decide (a % 16 > 9)) (g.a.getLsbD 3) (evenOnes g.a) n c

/-- R501, R502, R530: DAA after the ADD or SUB of two two-digit decimal numbers gives the decimal sum or difference modulo 100, and C
the decimal carry or borrow. -/
def Obligations.DaaCorrectsDecimalAddAndSub : Prop :=
  ∀ (s t : State) (x y : Nat), x < 100 → y < 100 →
    let bcd (k : Nat) : Byte := BitVec.ofNat 8 (k / 10 * 16 + k % 10)
    s.regs.a = bcd x →
    (exec (.addAN (bcd y)) s = .next t → ∃ u, exec .daa t = .next u ∧ u.regs.a = bcd ((x + y) % 100) ∧
      u.regs.f.getLsbD 0 = decide (100 ≤ x + y)) ∧
    (exec (.subN (bcd y)) s = .next t → ∃ u, exec .daa t = .next u ∧ u.regs.a = bcd ((100 + x - y) % 100) ∧
      u.regs.f.getLsbD 0 = decide (x < y))

/-- R531-R534: CPL, NEG, CCF and SCF; Y and X of CCF and SCF come from A unless the parameter draws them. -/
def Obligations.AccumulatorAndCarryInstructions : Prop :=
  ∀ s : State,
    let f := s.regs.f
    (RunsRegs .cpl s 4 [] fun g => OnlyAF s.regs g (~~~s.regs.a) ∧
      FlagsAre g.f (f.getLsbD 7) (f.getLsbD 6) (!s.regs.a.getLsbD 5) true (!s.regs.a.getLsbD 3) (f.getLsbD 2) true (f.getLsbD 0)) ∧
    (RunsRegs .neg s 8 [] fun g => OnlyAF s.regs g (0 - s.regs.a) ∧
      FlagsAre g.f (g.a.getLsbD 7) (decide (s.regs.a = 0)) (g.a.getLsbD 5) (decide (s.regs.a.toNat % 16 ≠ 0)) (g.a.getLsbD 3)
        (decide (s.regs.a = 0x80)) true (decide (s.regs.a ≠ 0))) ∧
    let carry (i : Instr) (h c : Bool) := RunsRegs i s 4 [] fun g => OnlyF s.regs g ∧ ∃ y x,
      FlagsAre g.f (f.getLsbD 7) (f.getLsbD 6) y h x (f.getLsbD 2) false c ∧
        (s.params.scfCcfXy = .fromA → y = s.regs.a.getLsbD 5 ∧ x = s.regs.a.getLsbD 3)
    carry .ccf (f.getLsbD 0) (!f.getLsbD 0) ∧ carry .scf false true

/-! ## 42_alu16 -/

namespace Sys2Proof.Claims

/-- The carries and the overflow of a 16-bit sum (42_alu16 R600), and its result. -/
def Sum16 (a b : Word) (cin : Bool) (r : Word) (h c v : Bool) : Prop :=
  r.toNat = (a.toNat + b.toNat + cin.toNat) % 65536 ∧ h = decide (4095 < a.toNat % 4096 + b.toNat % 4096 + cin.toNat) ∧
    c = decide (65535 < a.toNat + b.toNat + cin.toNat) ∧ v = overflows16 (a.toInt + b.toInt + cin.toNat)

/-- The borrows and the overflow of a 16-bit difference (42_alu16 R600), and its result. -/
def Difference16 (a b : Word) (cin : Bool) (r : Word) (h c v : Bool) : Prop :=
  r.toNat = (65536 + 65536 + a.toNat - b.toNat - cin.toNat) % 65536 ∧ h = decide (a.toNat % 4096 < b.toNat % 4096 + cin.toNat) ∧
    c = decide (a.toNat < b.toNat + cin.toNat) ∧ v = overflows16 (a.toInt - b.toInt - cin.toNat)

/-- The registers but HL and F. -/
def OnlyHlF (s t : RegFile) (v : Word) : Prop := t = { s with h := hiByte v, l := loByte v, f := t.f }

end Sys2Proof.Claims

/-- R600-R604: ADD HL, ADC HL, SBC HL and ADD IXY. ADD keeps S, Z and PV; Y and X are bits 13 and 11 of the result. -/
def Obligations.WordAdditionAndSubtraction : Prop :=
  ∀ (s : State) (p : Pair) (x : Idx) (pp : PairP),
    let f := s.regs.f
    let c := f.getLsbD 0
    let kept (r : Word) (g : Byte) (h cy : Bool) :=
      FlagsAre g (f.getLsbD 7) (f.getLsbD 6) (r.getLsbD 13) h (r.getLsbD 11) (f.getLsbD 2) false cy
    (RunsRegs (.addHlSs p) s 11 [] fun g => ∃ r h cy v, Sum16 (word s.regs.h s.regs.l) (s.getPair p) false r h cy v ∧
      OnlyHlF s.regs g r ∧ kept r g.f h cy) ∧
    (RunsRegs (.adcHlSs p) s 15 [] fun g => ∃ r h cy v, Sum16 (word s.regs.h s.regs.l) (s.getPair p) c r h cy v ∧
      OnlyHlF s.regs g r ∧
        FlagsAre g.f (r.getLsbD 15) (decide (r = 0)) (r.getLsbD 13) h (r.getLsbD 11) v false cy) ∧
    (RunsRegs (.sbcHlSs p) s 15 [] fun g => ∃ r h cy v, Difference16 (word s.regs.h s.regs.l) (s.getPair p) c r h cy v ∧
      OnlyHlF s.regs g r ∧
        FlagsAre g.f (r.getLsbD 15) (decide (r = 0)) (r.getLsbD 13) h (r.getLsbD 11) v true cy) ∧
    RunsIdx (.addIxyPp x pp) s 15 [] fun t => ∃ r h cy v, Sum16 (s.getIdx x) (s.getPairP x pp) false r h cy v ∧
      OnlyF s.regs t.regs ∧ IdxWritten s t x r ∧ kept r t.regs.f h cy

/-- R605-R608: 16-bit INC and DEC wrap modulo 65,536 and change no flag and no other register. -/
def Obligations.WordIncrementAndDecrement : Prop :=
  ∀ (s : State) (p : Pair) (x : Idx),
    let pair (i : Instr) (d : Nat) := ∃ t, exec i s = .next t ∧
      t = { s with regs := t.regs, sp := t.sp, cycles := s.cycles + 6 } ∧
        (t.getPair p).toNat = ((s.getPair p).toNat + d) % 65536 ∧ (∀ q, q ≠ p → t.getPair q = s.getPair q) ∧
        t.regs.a = s.regs.a ∧ t.regs.f = s.regs.f
    let index (i : Instr) (d : Nat) := RunsIdx i s 10 [] fun t =>
      t.regs = s.regs ∧ ((t.getIdx x).toNat = ((s.getIdx x).toNat + d) % 65536) ∧ ∀ y, y ≠ x → t.getIdx y = s.getIdx y
    pair (.incSs p) 1 ∧ pair (.decSs p) 65535 ∧ index (.incIxy x) 1 ∧ index (.decIxy x) 65535

/-! ## 43_block -/

namespace Sys2Proof.Claims

/-- A word moved by +1 or by -1. -/
def moved (up : Bool) (w : Word) : Word := BitVec.ofNat 16 (if up then w.toNat + 1 else w.toNat + 65535)

/-- R710: how the step of a repeating form ends, `again` the condition: PC back by 2 and 21 T-states, or PC kept and 16. -/
def Ends (s t : State) (repeating again : Bool) : Prop :=
  (if repeating && again then t.pc = s.pc - 2 ∧ t.cycles = s.cycles + 21 else t.pc = s.pc ∧ t.cycles = s.cycles + 16)

/-- R713: Y and X are drawn on a step that repeats when the parameter is ANY; else they are these. -/
def YX (s : State) (f : Byte) (repeats : Bool) (y x : Bool) : Prop :=
  ¬(repeats = true ∧ s.params.blockRepeatFlags = .any) → f.getLsbD 5 = y ∧ f.getLsbD 3 = x

/-- The four transfers: up or down, single or repeating. -/
def transferOf : Bool → Bool → Instr
  | true, false => .ldi
  | false, false => .ldd
  | true, true => .ldir
  | false, true => .lddr

/-- The same for the searches: CPI, CPD, CPIR, CPDR. -/
def searchOf : Bool → Bool → Instr
  | true, false => .cpi
  | false, false => .cpd
  | true, true => .cpir
  | false, true => .cpdr

/-- The same for the inputs: INI, IND, INIR, INDR. -/
def inputOf : Bool → Bool → Instr
  | true, false => .ini
  | false, false => .ind
  | true, true => .inir
  | false, true => .indr

/-- The same for the outputs: OUTI, OUTD, OTIR, OTDR. -/
def outputOf : Bool → Bool → Instr
  | true, false => .outi
  | false, false => .outd
  | true, true => .otir
  | false, true => .otdr

/-- R703 with R713: the flags of a block input or output, k the 9-bit sum. -/
def IoFlags (s : State) (f v b : Byte) (k : Nat) (repeats : Bool) : Prop :=
  f.getLsbD 7 = b.getLsbD 7 ∧ f.getLsbD 6 = decide (b = 0) ∧ f.getLsbD 1 = v.getLsbD 7 ∧ f.getLsbD 0 = decide (255 < k) ∧
    (¬(repeats = true ∧ s.params.blockRepeatFlags = .any) → f.getLsbD 5 = b.getLsbD 5 ∧ f.getLsbD 3 = b.getLsbD 3 ∧
      f.getLsbD 4 = decide (255 < k) ∧ f.getLsbD 2 = evenOnes (BitVec.ofNat 8 (k % 8) ^^^ b))

end Sys2Proof.Claims

/-- R700, R701, R704-R707, R710, R713: one step of LDI, LDD, LDIR, LDDR moves one byte from HL to DE, moves HL and DE, lowers BC, and a
repeating form goes back to its ED byte while BC is not 0. -/
def Obligations.BlockTransferStep : Prop :=
  ∀ (s : State) (up rep : Bool), Memory.wf s.mem → ∃ t, exec (transferOf up rep) s = .next t ∧
    let v := s.memVal s.regs.hl
    let bc := s.regs.bc - 1
    let n := v + s.regs.a
    let again := decide (bc ≠ 0)
    t = { s with
      regs := t.regs, pc := t.pc, mem := t.mem, draws := t.draws, cycles := t.cycles
      events := s.events ++ [.read s.regs.hl v, .write s.regs.de v] } ∧
    t.regs.a = s.regs.a ∧ t.regs.hl = moved up s.regs.hl ∧ t.regs.de = moved up s.regs.de ∧ t.regs.bc = bc ∧
    StoredByte s t.mem s.regs.de v ∧ Ends s t rep again ∧ YX s t.regs.f (rep && again) (n.getLsbD 1) (n.getLsbD 3) ∧
    FlagsAre t.regs.f (s.regs.f.getLsbD 7) (s.regs.f.getLsbD 6) (t.regs.f.getLsbD 5) false (t.regs.f.getLsbD 3) again false
      (s.regs.f.getLsbD 0)

/-- R700, R702, R708-R713: one step of CPI, CPD, CPIR, CPDR compares A with the byte at HL, moves HL, lowers BC, keeps A and C, and a
repeating form goes back while BC is not 0 and there is no match. -/
def Obligations.BlockSearchStep : Prop :=
  ∀ (s : State) (up rep : Bool), ∃ t, exec (searchOf up rep) s = .next t ∧
    let v := s.memVal s.regs.hl
    let bc := s.regs.bc - 1
    let r := s.regs.a - v
    let h := decide (s.regs.a.toNat % 16 < v.toNat % 16)
    let n := if h then r - 1 else r
    let again := decide (bc ≠ 0 ∧ s.regs.a ≠ v)
    t = { s with
      regs := t.regs, pc := t.pc, draws := t.draws, cycles := t.cycles, events := s.events ++ [.read s.regs.hl v] } ∧
    t.regs.a = s.regs.a ∧ t.regs.hl = moved up s.regs.hl ∧ t.regs.de = s.regs.de ∧ t.regs.bc = bc ∧
    Ends s t rep again ∧ YX s t.regs.f (rep && again) (n.getLsbD 1) (n.getLsbD 3) ∧
    FlagsAre t.regs.f (r.getLsbD 7) (decide (s.regs.a = v)) (t.regs.f.getLsbD 5) h (t.regs.f.getLsbD 3) (decide (bc ≠ 0)) true
      (s.regs.f.getLsbD 0)

/-- R703, R710, R713, R720-R723: one step of INI, IND, INIR, INDR reads port BC (B before the decrement), stores the byte at HL, moves
HL and lowers B; register C is unchanged, and a repeating form goes back while B is not 0. -/
def Obligations.BlockInputStep : Prop :=
  ∀ (s : State) (up rep : Bool), Memory.wf s.mem → ∃ t v, exec (inputOf up rep) s = .next t ∧
    let b := s.regs.b - 1
    let k := v.toNat + (if up then s.regs.c + 1 else s.regs.c - 1).toNat
    let again := decide (b ≠ 0)
    t = { s with
      regs := t.regs, pc := t.pc, mem := t.mem, draws := t.draws, cycles := t.cycles
      events := s.events ++ [.input (word s.regs.b s.regs.c) v, .write s.regs.hl v] } ∧
    t.regs = { s.regs with b := b, h := hiByte (moved up s.regs.hl), l := loByte (moved up s.regs.hl), f := t.regs.f } ∧
    StoredByte s t.mem s.regs.hl v ∧ Ends s t rep again ∧ IoFlags s t.regs.f v b k (rep && again)

/-- R703, R710, R713, R724-R727: one step of OUTI, OUTD, OTIR, OTDR reads HL and outputs the byte to port BC with B already lowered;
the sum of R703 takes L after its change. -/
def Obligations.BlockOutputStep : Prop :=
  ∀ (s : State) (up rep : Bool), ∃ t, exec (outputOf up rep) s = .next t ∧
    let v := s.memVal s.regs.hl
    let b := s.regs.b - 1
    let k := v.toNat + (loByte (moved up s.regs.hl)).toNat
    let again := decide (b ≠ 0)
    t = { s with
      regs := t.regs, pc := t.pc, draws := t.draws, cycles := t.cycles
      events := s.events ++ [.read s.regs.hl v, .output (word b s.regs.c) v] } ∧
    t.regs = { s.regs with b := b, h := hiByte (moved up s.regs.hl), l := loByte (moved up s.regs.hl), f := t.regs.f } ∧
    Ends s t rep again ∧ IoFlags s t.regs.f v b k (rep && again)

/-! ## 44_rotate_shift -/

namespace Sys2Proof.Claims

/-- The result and the bit shifted out of each operation (44_rotate_shift R810-R817), c the carry. -/
def shifted (op : RotOp) (v : Byte) (c : Bool) : Byte × Bool :=
  let cIn : Byte := if c then 1 else 0
  match op with
  | .rlc => (v.rotateLeft 1, v.getLsbD 7)
  | .rrc => (v.rotateRight 1, v.getLsbD 0)
  | .rl => ((v <<< 1) ||| cIn, v.getLsbD 7)
  | .rr => ((v >>> 1) ||| (cIn <<< 7), v.getLsbD 0)
  | .sla => (v <<< 1, v.getLsbD 7)
  | .sra => (v.sshiftRight 1, v.getLsbD 0)
  | .sll => ((v <<< 1) ||| 1, v.getLsbD 7)
  | .srl => (v >>> 1, v.getLsbD 0)

/-- The rotate or shift of a register or of (HL). -/
def rotInstrM : RotOp → RegM → Instr
  | .rlc, m => .rlcM m
  | .rrc, m => .rrcM m
  | .rl, m => .rlM m
  | .rr, m => .rrM m
  | .sla, m => .slaM m
  | .sra, m => .sraM m
  | .sll, m => .sllM m
  | .srl, m => .srlM m

/-- The rotate or shift of (IXY+d). -/
def rotInstrXd : RotOp → Idx → Byte → Instr
  | .rlc, x, d => .rlcXd x d
  | .rrc, x, d => .rrcXd x d
  | .rl, x, d => .rlXd x d
  | .rr, x, d => .rrXd x d
  | .sla, x, d => .slaXd x d
  | .sra, x, d => .sraXd x d
  | .sll, x, d => .sllXd x d
  | .srl, x, d => .srlXd x d

/-- The rotate or shift of (IXY+d) that copies its result into a register. -/
def rotInstrXdR : RotOp → Idx → Byte → Reg8 → Instr
  | .rlc, x, d, r => .rlcXdR x d r
  | .rrc, x, d, r => .rrcXdR x d r
  | .rl, x, d, r => .rlXdR x d r
  | .rr, x, d, r => .rrXdR x d r
  | .sla, x, d, r => .slaXdR x d r
  | .sra, x, d, r => .sraXdR x d r
  | .sll, x, d, r => .sllXdR x d r
  | .srl, x, d, r => .srlXdR x d r

end Sys2Proof.Claims

/-- R800-R803: RLCA, RLA, RRCA and RRA rotate A, clear H and N, take C from the bit that left and Y and X from the new A, and keep S, Z
and PV, even when the result is zero. -/
def Obligations.AccumulatorRotatesKeepSZP : Prop :=
  ∀ s : State,
    let f := s.regs.f
    let rot (i : Instr) (op : RotOp) := RunsRegs i s 4 [] fun g =>
      let w := shifted op s.regs.a (f.getLsbD 0)
      OnlyAF s.regs g w.1 ∧
        FlagsAre g.f (f.getLsbD 7) (f.getLsbD 6) (w.1.getLsbD 5) false (w.1.getLsbD 3) (f.getLsbD 2) false w.2
    rot .rlca .rlc ∧ rot .rla .rl ∧ rot .rrca .rrc ∧ rot .rra .rr

/-- R504, R804, R810-R817: the eight rotates and shifts on a register and on memory at HL. -/
def Obligations.RotatesOnRegisterAndMemory : Prop :=
  ∀ (s : State) (op : RotOp) (r : Reg8), Memory.wf s.mem →
    let c := s.regs.f.getLsbD 0
    let w := shifted op (s.regs.get r) c
    let v := s.memVal s.regs.hl
    let u := shifted op v c
    (RunsRegs (rotInstrM op (.reg r)) s 8 [] fun g =>
      OnlyReg s.regs { g with f := s.regs.f } r w.1 ∧ RotateFlags w.1 g.f w.2) ∧
    RunsMem (rotInstrM op .hl) s 15 [.read s.regs.hl v, .write s.regs.hl u.1] fun g m =>
      OnlyF s.regs g ∧ StoredByte s m s.regs.hl u.1 ∧ RotateFlags u.1 g.f u.2

/-- R504, R804, R810-R817: the eight rotates and shifts on (IXY+d), and the undocumented forms that copy the result into a real register
after the memory write. -/
def Obligations.RotatesOnIndexedMemory : Prop :=
  ∀ (s : State) (op : RotOp) (x : Idx) (d : Byte) (r : Reg8), Memory.wf s.mem →
    let a := effective s x d
    let v := s.memVal a
    let u := shifted op v (s.regs.f.getLsbD 0)
    (RunsMem (rotInstrXd op x d) s 23 [.read a v, .write a u.1] fun g m =>
      OnlyF s.regs g ∧ StoredByte s m a u.1 ∧ RotateFlags u.1 g.f u.2) ∧
    RunsMem (rotInstrXdR op x d r) s 23 [.read a v, .write a u.1] fun g m =>
      OnlyReg s.regs { g with f := s.regs.f } r u.1 ∧ StoredByte s m a u.1 ∧ RotateFlags u.1 g.f u.2

/-- R820, R821: RLD and RRD turn the three digits A[3:0], m[7:4], m[3:0]; A[7:4] and C are kept. -/
def Obligations.DigitRotates : Prop :=
  ∀ s : State, Memory.wf s.mem →
    let m := s.memVal s.regs.hl
    let a := s.regs.a
    let turn (i : Instr) (w a' : Byte) := RunsMem i s 18 [.read s.regs.hl m, .write s.regs.hl w] fun g mem =>
      OnlyAF s.regs g a' ∧ StoredByte s mem s.regs.hl w ∧ RotateFlags a' g.f (s.regs.f.getLsbD 0)
    turn .rld ((m <<< 4) ||| (a &&& 0x0F)) ((a &&& 0xF0) ||| (m >>> 4)) ∧
      turn .rrd ((a <<< 4) ||| (m >>> 4)) ((a &&& 0xF0) ||| (m &&& 0x0F))

/-- R820, R821: RRD undoes RLD: A and the byte at HL are back, when that byte is plain RAM. -/
def Obligations.RrdUndoesRld : Prop :=
  ∀ s t u : State, Memory.wf s.mem → s.isRam s.regs.hl = true → exec .rld s = .next t → exec .rrd t = .next u →
    u.regs.a = s.regs.a ∧ ∀ a : Nat, memRead u.mem a = memRead s.mem a

/-! ## 45_bit -/

/-- R900-R903: BIT tests one bit and writes F alone: Z and PV its complement, S only for bit 7, H set, C kept; Y and X from the tested
operand, or for (IXY+d) from the high byte of the address, unless the parameter draws them. -/
def Obligations.BitTestWritesFlagsOnly : Prop :=
  ∀ (s : State) (b : BitVec 3) (r : Reg8) (x : Idx) (d : Byte),
    let f := s.regs.f
    let bit (v : Byte) (g : RegFile) (y u : Bool) := OnlyF s.regs g ∧
      FlagsAre g.f (decide (b = 7) && v.getLsbD b.toNat) (!v.getLsbD b.toNat) y true u (!v.getLsbD b.toNat) false (f.getLsbD 0)
    let hl := s.memVal s.regs.hl
    let a := effective s x d
    let v := s.memVal a
    (RunsRegs (.bitBR b r) s 8 [] fun g => bit (s.regs.get r) g ((s.regs.get r).getLsbD 5) ((s.regs.get r).getLsbD 3)) ∧
    (RunsRegs (.bitBHl b) s 12 [.read s.regs.hl hl] fun g => ∃ y u, bit hl g y u ∧
      (s.params.bitHlXy = .operand → y = hl.getLsbD 5 ∧ u = hl.getLsbD 3)) ∧
    RunsRegs (.bitBXd x b d) s 20 [.read a v] fun g => ∃ y u, bit v g y u ∧
      (s.params.bitIdxXy = .addrHigh → y = a.getLsbD 13 ∧ u = a.getLsbD 11)

/-- R904-R911: SET and RES change the one bit of their target and no flag; the memory forms write the byte back even when the bit is
already so, and the copying forms put it into a real register too. -/
def Obligations.SetAndResChangeOneBit : Prop :=
  ∀ (s : State) (b : BitVec 3) (r : Reg8) (x : Idx) (d : Byte), Memory.wf s.mem →
    let isBit (on : Bool) (v w : Byte) := ∀ k, k < 8 → w.getLsbD k = if k = b.toNat then on else v.getLsbD k
    let a := effective s x d
    let forms (on : Bool) (iR iHl iXd iXdR : Instr) :=
      (RunsRegs iR s 8 [] fun g => ∃ w, isBit on (s.regs.get r) w ∧ OnlyReg s.regs g r w) ∧
      (∃ w, isBit on (s.memVal s.regs.hl) w ∧
        RunsMem iHl s 15 [.read s.regs.hl (s.memVal s.regs.hl), .write s.regs.hl w] fun g m =>
          g = s.regs ∧ StoredByte s m s.regs.hl w) ∧
      ∃ w, isBit on (s.memVal a) w ∧
        (RunsMem iXd s 23 [.read a (s.memVal a), .write a w] fun g m => g = s.regs ∧ StoredByte s m a w) ∧
        RunsMem iXdR s 23 [.read a (s.memVal a), .write a w] fun g m => OnlyReg s.regs g r w ∧ StoredByte s m a w
    forms true (.setBR b r) (.setBHl b) (.setBXd x b d) (.setBXdR x b d r) ∧
      forms false (.resBR b r) (.resBHl b) (.resBXd x b d) (.resBXdR x b d r)

/-! ## 46_jump_call_return -/

/-- R312, R1000-R1006: jumps write PC alone (DJNZ also lowers B, modulo 256, and jumps while it is not 0); a conditional one whose
condition fails only costs its T-states; no flag changes. -/
def Obligations.JumpsWritePc : Prop :=
  ∀ (s : State) (cc : Cond) (cj : CondJr) (nn : Word) (e : Byte) (x : Idx),
    exec (.jpNn nn) s = .next { s with pc := nn, cycles := s.cycles + 10 } ∧
    exec (.jpCcNn cc nn) s = .next { s with pc := if holds cc s.regs.f then nn else s.pc, cycles := s.cycles + 10 } ∧
    exec (.jr e) s = .next { s with pc := relative s e, cycles := s.cycles + 12 } ∧
    exec (.jrCc cj e) s = .next { s with
      pc := if holdsJr cj s.regs.f then relative s e else s.pc
      cycles := s.cycles + if holdsJr cj s.regs.f then 12 else 7 } ∧
    exec .jpHl s = .next { s with pc := word s.regs.h s.regs.l, cycles := s.cycles + 4 } ∧
    exec (.jpIxy x) s = .next { s with pc := s.getIdx x, cycles := s.cycles + 8 } ∧
    let b := (s.regs.b.toNat + 255) % 256
    exec (.djnz e) s = .next { s with
      regs := { s.regs with b := BitVec.ofNat 8 b }
      pc := if b = 0 then s.pc else relative s e
      cycles := s.cycles + if b = 0 then 8 else 13 }

/-- R1010, R1011, R1020: CALL and RST push the address after the instruction and jump; a CALL whose condition fails leaves SP and memory
alone. -/
def Obligations.CallsPushTheReturnAddress : Prop :=
  ∀ (s : State) (cc : Cond) (nn : Word) (y : BitVec 3), Memory.wf s.mem →
    let called (i : Instr) (target : Word) (cyc : Nat) := ∃ t, exec i s = .next t ∧
      t = { s with sp := s.sp - 2, pc := target, mem := t.mem, cycles := s.cycles + cyc, events := s.events ++ pushes s.sp s.pc } ∧
        StoredWord s t.mem (s.sp - 2) (loByte s.pc) (hiByte s.pc)
    called (.callNn nn) nn 17 ∧ called (.rst y) (BitVec.ofNat 16 (8 * y.toNat)) 11 ∧
      (holds cc s.regs.f = true → called (.callCcNn cc nn) nn 17) ∧
      (holds cc s.regs.f = false → exec (.callCcNn cc nn) s = .next { s with cycles := s.cycles + 10 })

/-- R1012, R1013, R1030, R1031: every return pops PC; RETN copies IFF2 into IFF1, RETI does so under RETI_RESTORES_IFF and signals after
its reads; a RET whose condition fails reads nothing. -/
def Obligations.ReturnsPopPc : Prop :=
  ∀ (s : State) (cc : Cond),
    let lo := s.memVal s.sp
    let hi := (s.readDone s.sp).memVal (s.sp + 1)
    let returned (i : Instr) (cyc : Nat) (iff1 : Bool) (ev : List Event) := ∃ t, exec i s = .next t ∧
      t = { s with
        sp := s.sp + 2, pc := word hi lo, iff1 := iff1, draws := t.draws, cycles := s.cycles + cyc
        events := s.events ++ reads2 s.sp lo hi ++ ev }
    returned .ret 10 s.iff1 [] ∧ returned .retn 14 s.iff2 [] ∧
      returned .reti 14 (if s.params.retiRestoresIff then s.iff2 else s.iff1) [.retiSignal] ∧
      (holds cc s.regs.f = true → returned (.retCc cc) 11 s.iff1 []) ∧
      (holds cc s.regs.f = false → exec (.retCc cc) s = .next { s with cycles := s.cycles + 5 })

/-! ## 47_cpu_control and 48_io -/

/-- R1100, R1101, R1103-R1106: NOP and ED_UNDEFINED only take their T-states, HALT sets `halted`, DI and EI write both flip-flops (EI marks
the step), IM sets the mode; nothing else changes. -/
def Obligations.CpuControlEffects : Prop :=
  ∀ (s : State) (m : IntMode) (op : Byte),
    exec .nop s = .next { s with cycles := s.cycles + 4 } ∧
    exec .halt s = .next { s with halted := true, cycles := s.cycles + 4 } ∧
    exec .di s = .next { s with iff1 := false, iff2 := false, cycles := s.cycles + 4 } ∧
    exec .ei s = .next { s with iff1 := true, iff2 := true, intInhibit := .ei, cycles := s.cycles + 4 } ∧
    exec (.imM m) s = .next { s with im := m, cycles := s.cycles + 8 } ∧
    exec (.edUndefined op) s = .next { s with cycles := s.cycles + 8 }

/-- R320-R327, R1107 with log 9: a prefix row is a move of the fetch phase: it names the context of the next byte; a discarded or ignored
DD/FD adds 4 T-states; no register, flag, memory byte or interrupt bit changes. -/
def Obligations.PrefixMovesOnlyChangeContext : Prop :=
  ∀ (s : State) (x x2 : Idx) (d op : Byte),
    let move (i : Instr) (c : Context) (cyc : Nat) := exec i s = .next { s with fetching := some c, cycles := s.cycles + cyc }
    move .prefixCB .cb 0 ∧ move .prefixED .ed 0 ∧ move (.prefixIdx x) (.idx x) 0 ∧ move (.prefixIdxCB x d) (.idxCb x d) 0 ∧
      move (.overriddenByIdx x x2) (.idx x2) 4 ∧ move (.overriddenByEd x) .ed 4 ∧ move (.ignoredPrefix x op) .plain 4

/-- R201, R1200-R1205: an input reads one port, A:n or BC, and puts whatever byte it answers into its register; IN r,(C) and IN F,(C) set
the flags of that byte and keep C, IN A,(n) sets none; an output writes one port and changes nothing else; OUT (C),0 outputs zero. -/
def Obligations.PortInstructionsUseOnePort : Prop :=
  ∀ (s : State) (n : Byte) (r : Reg8),
    let bc := word s.regs.b s.regs.c
    let out (i : Instr) (p : Word) (v : Byte) (cyc : Nat) :=
      exec i s = .next { s with events := s.events ++ [.output p v], cycles := s.cycles + cyc }
    let answers (p : Word) (v : Byte) := ∀ l, s.portsAnswer l → v = (l.lookup p).getD 0xFF
    (∃ v, answers (word s.regs.a n) v ∧ RunsRegs (.inAN n) s 11 [.input (word s.regs.a n) v] fun g => OnlyReg s.regs g .a v) ∧
    (∃ v, answers bc v ∧ RunsRegs (.inRC r) s 12 [.input bc v] fun g =>
      OnlyReg s.regs { g with f := s.regs.f } r v ∧ RotateFlags v g.f (s.regs.f.getLsbD 0)) ∧
    (∃ v, answers bc v ∧ RunsRegs .inFC s 12 [.input bc v] fun g =>
      OnlyF s.regs g ∧ RotateFlags v g.f (s.regs.f.getLsbD 0)) ∧
    out (.outNA n) (word s.regs.a n) s.regs.a 11 ∧ out (.outCR r) bc (s.regs.get r) 12 ∧ out .outC0 bc 0 12

/-! ## 60_exceptions, 47 R1102, 70_reset: acceptance, the halted step, reset -/

namespace Sys2Proof.Claims

/-- The effects every acceptance shares (60_exceptions R1320), on a step that began at a boundary: Running, R counted once, the report,
PC pushed, `int_inhibit` NONE, IFF1 clear; `pc`, IFF2, the NMI latch, the T-states and the later events as given. -/
def Accepted (s t : State) (k : AckKind) (iff2 nmi : Bool) (cyc : Nat) (ev : List Event) : Prop :=
  t = { s with
    sp := s.sp - 2, pc := t.pc, r := refreshCount s.r 1, iff1 := false, iff2 := iff2, halted := false, intInhibit := .none
    nmiPending := nmi, mem := t.mem, draws := t.draws, cycles := cyc, events := .intAck k :: pushes s.sp s.pc ++ ev } ∧
  StoredWord s t.mem (s.sp - 2) (loByte s.pc) (hiByte s.pc)

/-- At a boundary a maskable interrupt is due (60_exceptions R1312). -/
def IntDue (s : State) : Prop :=
  s.fetching = none ∧ s.nmiPending = false ∧ s.intLine = true ∧ s.iff1 = true ∧ s.intInhibit = .none

/-- A push may read SP: DRAW, or SP written since reset (10_state R130, 70_reset R1403). -/
def SpReadable (s : State) : Prop := s.params.resetRegs = .faultOnRead → .sp ∉ s.unwritten

/-- IFF2 after an NMI acceptance: unchanged (60_exceptions R1322), or the IFF1 of that moment (R1327), by the model's own parameter
(log 16). -/
def iff2AfterNmi (s : State) : Bool := if s.params.nmiIff2 = .keep then s.iff2 else s.iff1

/-- The acknowledge kind of an interrupt mode. -/
def ackOf : IntMode → AckKind
  | .im0 => .im0
  | .im1 => .im1
  | .im2 => .im2

end Sys2Proof.Claims

/-- R1312, R1320, R1322: at a boundary with an NMI pending the step takes it, whatever IFF1, IFF2, the EI shadow and `halted` are: PC to
0x0066, IFF1 cleared, the latch cleared, IFF2 kept as R1322 says or, by the model's own parameter, IFF1 copied into it as R1327 says
(log 16). Where SP is unwritten under FAULT_ON_READ its push faults (R1403, log 17). -/
def Obligations.NmiAcceptance : Prop :=
  ∀ s : State, Memory.wf s.mem → s.fetching = none → s.nmiPending = true →
    (SpReadable s → ∃ t, step s = .next t ∧ Accepted s t .nmi (iff2AfterNmi s) false 11 [] ∧ t.pc = 0x0066) ∧
    (¬SpReadable s → step s = .fault (.readBeforeWrite .sp))

/-- R1320, R1321, R1324, R1325: IM1 acceptance goes to 0x0038; IM0 acceptance runs an RST byte, with no memory read and no second R
increment. Where SP is unwritten under FAULT_ON_READ their push faults (R1403, log 17). -/
def Obligations.InterruptModesZeroAndOne : Prop :=
  ∀ s : State, Memory.wf s.mem → IntDue s →
    (s.im = .im1 → SpReadable s → ∃ t, step s = .next t ∧ Accepted s t .im1 false false 13 [] ∧ t.pc = 0x0038) ∧
    (s.im = .im0 → s.intData &&& 0xC7 = 0xC7 → SpReadable s →
      ∃ t, step s = .next t ∧ Accepted s t .im0 false false 13 [] ∧ t.pc.toNat = s.intData.toNat / 8 % 8 * 8) ∧
    (s.im = .im1 ∨ s.im = .im0 ∧ s.intData &&& 0xC7 = 0xC7 → ¬SpReadable s → step s = .fault (.readBeforeWrite .sp))

/-- R1320, R1321, R1323: IM2 acceptance reads the handler's address at I:int_data after the push, low byte first, bit 0 not forced.
Where SP is unwritten under FAULT_ON_READ the push faults (R1403, log 17). -/
def Obligations.InterruptModeTwoAcceptance : Prop :=
  ∀ s : State, Memory.wf s.mem → IntDue s → s.im = .im2 →
    (SpReadable s → ∃ t lo hi, step s = .next t ∧
      let vec := word s.i s.intData
      Accepted s t .im2 false false 19 (reads2 vec lo hi) ∧ t.pc = word hi lo ∧
        (s.isRam vec = true → lo = memRead t.mem vec.toNat) ∧
        (s.isRam (vec + 1) = true → hi = memRead t.mem (vec + 1).toNat)) ∧
    (¬SpReadable s → step s = .fault (.readBeforeWrite .sp))

/-- R130, R1301, R1325, R1330: a step is refused exactly at an IM0 acceptance of a byte that is no RST, and it faults only under
FAULT_ON_READ, naming a register that is unwritten (log 17). That every other step answers a next state is the model's reading: it
hands back an endless DD/FD chain, which in the spec never returns, as an internal move (log 9), and so counts as no fault and
no refusal (log 13). -/
def Obligations.OnlyNonRstInModeZeroIsRefused : Prop :=
  ∀ s : State,
    (step s = .refused .im0NotRst ↔ IntDue s ∧ s.im = .im0 ∧ s.intData &&& 0xC7 ≠ 0xC7) ∧
      ((∃ t, step s = .next t) ∨ step s = .refused .im0NotRst ∨
        ∃ n, step s = .fault (.readBeforeWrite n) ∧ s.params.resetRegs = .faultOnRead ∧ n ∈ s.unwritten)

/-- R1312, R1320: a step from a boundary acknowledges an interrupt exactly when R1312 says one is accepted, an NMI before an INT. -/
def Obligations.AcknowledgesExactlyWhenDue : Prop :=
  ∀ s t : State, s.fetching = none → step s = .next t →
    (.intAck .nmi ∈ t.events ↔ s.nmiPending = true) ∧
      ∀ k, k ≠ .nmi → (.intAck k ∈ t.events ↔ IntDue s ∧ k = ackOf s.im)

/-- R1311, R1411: a step marks `int_inhibit` EI only if both flip-flops are then set and nothing was accepted; the step after EI accepts
nothing unless an NMI is pending. -/
def Obligations.EiDefersOneStep : Prop :=
  ∀ s t : State, s.fetching = none → step s = .next t → t.intInhibit = .ei →
    (t.iff1 = true ∧ t.iff2 = true ∧ s.halted = false ∧ ∀ k, .intAck k ∉ t.events) ∧
      (t.nmiPending = false → ∀ u, step t = .next u → ∀ k, .intAck k ∉ u.events)

/-- R1102, R1310, R1311: a halted step only counts R once, takes 4 T-states and writes NONE to `int_inhibit`; it makes no access, and every
other register, PC, IFF1, IFF2, IM and `halted` are unchanged. -/
def Obligations.HaltedStepOnlyRefreshes : Prop :=
  ∀ s : State, s.fetching = none → s.halted = true → s.nmiPending = false → ¬IntDue s →
    step s = .next { s with r := refreshCount s.r 1, intInhibit := .none, cycles := 4, events := [] }

/-- R1101, R1102: halted with IFF1 clear and no NMI, the machine stays so for any number of steps: PC, memory and every register
but R are unchanged, and R counts the steps. -/
def Obligations.HaltWithoutInterruptsLasts : Prop :=
  ∀ (s : State) (n : Nat), s.fetching = none → s.halted = true → s.nmiPending = false → s.iff1 = false →
    ∃ t, Host.Core.run Sys2Proof.core n s = .next t ∧
      t = { s with r := refreshCount s.r n, intInhibit := t.intInhibit, cycles := t.cycles, events := t.events }

/-- R1031, R1322: an RETN right after an NMI acceptance comes back: PC, SP and the registers as before, IFF1 from the IFF2 the NMI left
(R1322, or R1327 by the model's own parameter, log 16). The stack is in plain RAM. -/
def Obligations.RetnRestoresAfterNmi : Prop :=
  ∀ s t : State, Memory.wf s.mem → s.fetching = none → s.nmiPending = true → s.isRam (s.sp - 1) = true →
    s.isRam (s.sp - 2) = true → step s = .next t →
    ∃ u, exec .retn t = .next u ∧ u.pc = s.pc ∧ u.sp = s.sp ∧ u.iff1 = iff2AfterNmi s ∧ u.iff2 = iff2AfterNmi s ∧ u.regs = s.regs

/-- R1400, R1402, R130: the values reset fixes, at power-on under any parameters and after a reset of a machine in any state, and what a reset
does not touch. The model's own choices beside them: the marks, by which every register R1400 leaves unspecified is unwritten under
FAULT_ON_READ and none is under DRAW (log 17), and the parameters of `State.reset`, the defaults of R7 (log 6) and of log 16. -/
def Obligations.ResetValues : Prop :=
  let marks (s : State) := (s.params.resetRegs = .draw → s.unwritten = []) ∧
    (s.params.resetRegs = .faultOnRead → ∀ n : RegName, n ∈ s.unwritten)
  (State.reset.resetState ∧ marks State.reset ∧ State.reset.params = Config.defaultParams) ∧
    (∀ p : Params, (State.powerOn p).resetState ∧ marks (State.powerOn p) ∧ (State.powerOn p).params = p) ∧
    ∀ s : State, s.hostReset.resetState ∧ marks s.hostReset ∧ s.hostReset.params = s.params ∧ s.hostReset.mem = s.mem ∧
      s.hostReset.ram = s.ram ∧ s.hostReset.ports = s.ports ∧ s.hostReset.intLine = s.intLine ∧
      s.hostReset.intData = s.intData ∧ s.hostReset.fetching = none

/-! ## Whole-machine rules -/

namespace Sys2Proof.Claims

/-- The addresses an instruction stores to, before its own effects on the registers (20_memory R210). -/
def storesTo (s : State) : Instr → List Word
  | .ldHlR _ => [s.regs.hl]
  | .ldXdR x d _ => [s.ea x d]
  | .ldHlN _ => [s.regs.hl]
  | .ldXdN x d _ => [s.ea x d]
  | .ldBcA => [s.regs.bc]
  | .ldDeA => [s.regs.de]
  | .ldNnA nn => [nn]
  | .ldNnHl nn => [nn, nn + 1]
  | .ldNnIxy _ nn => [nn, nn + 1]
  | .ldNnDd _ nn => [nn, nn + 1]
  | .pushQq _ => [s.sp - 1, s.sp - 2]
  | .pushIxy _ => [s.sp - 1, s.sp - 2]
  | .callNn _ => [s.sp - 1, s.sp - 2]
  | .callCcNn cc _ => if condHolds cc s.regs.f then [s.sp - 1, s.sp - 2] else []
  | .rst _ => [s.sp - 1, s.sp - 2]
  | .exSpHl => [s.sp, s.sp + 1]
  | .exSpIxy _ => [s.sp, s.sp + 1]
  | .incHl => [s.regs.hl]
  | .decHl => [s.regs.hl]
  | .incXd x d => [s.ea x d]
  | .decXd x d => [s.ea x d]
  | .rlcM .hl => [s.regs.hl]
  | .rrcM .hl => [s.regs.hl]
  | .rlM .hl => [s.regs.hl]
  | .rrM .hl => [s.regs.hl]
  | .slaM .hl => [s.regs.hl]
  | .sraM .hl => [s.regs.hl]
  | .sllM .hl => [s.regs.hl]
  | .srlM .hl => [s.regs.hl]
  | .rlcXd x d => [s.ea x d]
  | .rrcXd x d => [s.ea x d]
  | .rlXd x d => [s.ea x d]
  | .rrXd x d => [s.ea x d]
  | .slaXd x d => [s.ea x d]
  | .sraXd x d => [s.ea x d]
  | .sllXd x d => [s.ea x d]
  | .srlXd x d => [s.ea x d]
  | .rlcXdR x d _ => [s.ea x d]
  | .rrcXdR x d _ => [s.ea x d]
  | .rlXdR x d _ => [s.ea x d]
  | .rrXdR x d _ => [s.ea x d]
  | .slaXdR x d _ => [s.ea x d]
  | .sraXdR x d _ => [s.ea x d]
  | .sllXdR x d _ => [s.ea x d]
  | .srlXdR x d _ => [s.ea x d]
  | .rld => [s.regs.hl]
  | .rrd => [s.regs.hl]
  | .setBHl _ => [s.regs.hl]
  | .resBHl _ => [s.regs.hl]
  | .setBXd x _ d => [s.ea x d]
  | .resBXd x _ d => [s.ea x d]
  | .setBXdR x _ d _ => [s.ea x d]
  | .resBXdR x _ d _ => [s.ea x d]
  | .ldi => [s.regs.de]
  | .ldd => [s.regs.de]
  | .ldir => [s.regs.de]
  | .lddr => [s.regs.de]
  | .ini => [s.regs.hl]
  | .ind => [s.regs.hl]
  | .inir => [s.regs.hl]
  | .indr => [s.regs.hl]
  | _ => []

/-- The invariant: memory keeps its canonical form, and a machine in the middle of a fetch phase is not halted. -/
def Inv (s : State) : Prop := Memory.wf s.mem ∧ (s.fetching ≠ none → s.halted = false)

end Sys2Proof.Claims

/-- R210 and every rule's pseudocode: no instruction changes a byte of memory outside the addresses it stores to. -/
def Obligations.MemoryChangesOnlyWhereStored : Prop :=
  ∀ (i : Instr) (s t : State), exec i s = .next t →
    ∀ a : Nat, (∀ w ∈ storesTo s i, w.toNat ≠ a) → memRead t.mem a = memRead s.mem a

/-- R103, R107, R108, R120, R121, R122, R126: each special register is written by the named instructions alone; the host's inputs, the NMI
latch, the parameters and what is assumed of the host by none. -/
def Obligations.SpecialRegistersHaveTheirWriters : Prop :=
  ∀ (i : Instr) (s t : State), exec i s = .next t →
    (i ≠ .exAfAf → i ≠ .exx → t.shadow = s.shadow) ∧ (i ≠ .ldIA → t.i = s.i) ∧ (i ≠ .ldRA → t.r = s.r) ∧
      ((∀ m, i ≠ .imM m) → t.im = s.im) ∧ (i ∉ [Instr.di, .ei, .reti, .retn] → t.iff1 = s.iff1) ∧
      (i ∉ [Instr.di, .ei] → t.iff2 = s.iff2) ∧ (i ≠ .halt → t.halted = s.halted) ∧ (i ≠ .ei → t.intInhibit = s.intInhibit) ∧
      t.nmiPending = s.nmiPending ∧ t.intLine = s.intLine ∧ t.intData = s.intData ∧ t.ram = s.ram ∧ t.ports = s.ports ∧
      t.params = s.params ∧ t.unwritten = s.unwritten

/-- R126, R1450 with R107, R121 and R1322: no step changes the host's inputs or the parameters, sets the NMI latch or, under DRAW, marks a
register (R130), and a step that accepts an interrupt changes none of the general registers, the shadow set, I and IM. -/
def Obligations.StepsLeaveHostInputsAlone : Prop :=
  ∀ s t : State, step s = .next t →
    t.intLine = s.intLine ∧ t.intData = s.intData ∧ t.ram = s.ram ∧ t.ports = s.ports ∧ t.params = s.params ∧
      (s.params.resetRegs = .draw → t.unwritten = s.unwritten) ∧
      (t.nmiPending = true → s.nmiPending = true) ∧
      (s.fetching = none → (s.nmiPending = true ∨ IntDue s) →
        t.regs = s.regs ∧ t.shadow = s.shadow ∧ t.ix = s.ix ∧ t.iy = s.iy ∧ t.i = s.i ∧ t.im = s.im)

/-- Every step keeps the invariant: the memory's canonical form (log 3), and no machine both halted and fetching. -/
def Obligations.StepKeepsInvariant : Prop := ∀ s t : State, Inv s → step s = .next t → Inv t

/-- The invariant (logs 3 and 9) holds right after power-on, and each of the host's actions (log 12) keeps it: reset, an NMI request, any
drive of INT and its data byte, any memory write. -/
def Obligations.ResetMeetsInvariant : Prop :=
  Inv State.reset ∧ (∀ p : Params, Inv (State.powerOn p)) ∧
    ∀ s : State, Inv s → Inv s.hostReset ∧ Inv s.hostNmi ∧ (∀ (line : Bool) (v : Byte), Inv (s.hostInt line v)) ∧
      ∀ (a : Word) (v : Byte), Inv (s.hostPoke a v)

/-! ## 30_encoding: decoding, and the step that runs what is decoded -/

/-- R328 and the encoding line of every instruction rule: decoding the bytes of a well-formed instruction gives it back, with every operand at
every value, and leaves the bytes after it. (A prefix row is no whole instruction: PrefixMovesRoundTrip.) -/
def Obligations.DecodeAfterEncode : Prop :=
  ∀ (i : Instr) (rest : List Byte), i.wf = true → nextContext i = none → decode (encode i ++ rest) = .ok (i, rest)

namespace Sys2Proof.Claims

/-- How many fetch units the bytes of an instruction are (30_encoding R321, R323): a prefix byte is one, DD CB d after its DD is one, and the
rest is one. -/
def unitCount : List Byte → Nat
  | [] => 0
  | [_] => 1
  | b :: b1 :: rest =>
    if b = 0xCB ∨ b = 0xED then 2
    else if b = 0xDD ∨ b = 0xFD then (if b1 = 0xCB ∧ rest.length = 2 then 3 else 2)
    else 1

/-- The bytes left after n fetch units from context c. -/
def bytesAfter : Nat → Context → List Byte → List Byte
  | 0, _, bs => bs
  | n + 1, c, bs =>
    let u := decodeUnit c (bs.getD 0 0) (bs.getD 1 0) (bs.getD 2 0)
    match nextContext u.instr with
    | none => bs.drop u.len
    | some c' => bytesAfter n c' (bs.drop u.len)

/-- What a unit leaves of its own row's bytes: an ignored prefix leaves the opcode it was ignored for (30_encoding R325). -/
def leftOver : Instr → List Byte
  | .ignoredPrefix _ op => [op]
  | _ => []

end Sys2Proof.Claims

/-- R321-R325: the bytes of a well-formed prefix row end in that row's own fetch unit, and of any other row in its instruction's: one unit for
each prefix byte (DD CB d is two) and one for the rest, after which exactly the bytes beyond the row are left, but for the opcode an
ignored prefix leaves to the next unit. -/
def Obligations.PrefixMovesRoundTrip : Prop :=
  ∀ (i : Instr) (rest : List Byte), i.wf = true →
    decodeNth (unitCount (encode i)) .plain (encode i ++ rest) = some i ∧
      bytesAfter (unitCount (encode i)) .plain (encode i ++ rest) = leftOver i ++ rest

/-- R300, R322, R328: decoding is total: four bytes after the overridden prefixes always hold a whole well-formed instruction. -/
def Obligations.DecodingIsTotal : Prop :=
  ∀ (chain rest : List Byte) (b : Byte), (∀ p ∈ chain, p = 0xDD ∨ p = 0xFD) → b ≠ 0xDD → b ≠ 0xFD → 3 ≤ rest.length →
    ∃ i tail k, decode (chain ++ b :: rest) = .ok (i, tail) ∧ i.wf = true ∧ nextContext i = none ∧
      tail = (chain ++ b :: rest).drop k ∧
      chain.length < k ∧ k ≤ 4 + (if b = 0xED then chain.length else chain.length - 1)

/-- R203, R340-R344: bytes written out from the opcode maps decode to the instructions they stand for. -/
def Obligations.WordsOfTheMapsDecode : Prop :=
  ∀ p ∈ [([0x3A, 0x34, 0x12], Instr.ldANn 0x1234), ([0xDD, 0x36, 0x02, 0x55], .ldXdN .ix 0x02 0x55), ([0xDD, 0x66, 0xFF], .ldRXd .ix .h 0xFF),
      ([0xDD, 0x65], .ldXh .ix .xh .xl), ([0xC6, 0xC2], .addAN 0xC2), ([0xFD, 0x35, 0x01], .decXd .iy 0x01), ([0xED, 0x52], .sbcHlSs .de),
      ([0xED, 0xBB], .otdr), ([0xDD, 0xCB, 0x01, 0x38], .srlXdR .ix 0x01 .b), ([0xFD, 0xCB, 0xFF, 0x7E], .bitBXd .iy 7 0xFF),
      ([0x38, 0x05], .jrCc .c 0x05), ([0xED, 0x4D], .reti), ([0xED, 0xDD], .edUndefined 0xDD), ([0xED, 0x71], .outC0),
      ([0xDD, 0xFD, 0x21, 0x00, 0x10], .ldIxyNn .iy 0x1000), ([0xDD, 0xEB], .exDeHl)],
    decode p.1 = .ok (p.2, [])

namespace Sys2Proof.Claims

/-- The opcode fetches (M1 cycles) of an instruction's own bytes (30_encoding R332): two if it begins with a prefix byte, else one. -/
def ownM1 (i : Instr) : Nat := if isPrefixByte ((encode i).headD 0) then 2 else 1

end Sys2Proof.Claims

/-- R106, R310, R321, R322, R325, R330, R332: at a boundary with nothing to accept, not halted, when the bytes at PC (plain RAM) decode to an
instruction i, the step is `exec i` of the state after the fetch phase: PC past the bytes, each byte fetched once in order, R counted
once per opcode fetch, 4 T-states per discarded or ignored prefix, and nothing else changed. Under FAULT_ON_READ (R130, log 17) the
first unwritten register that i reads faults instead, and what i writes is unmarked. -/
def Obligations.StepRunsTheDecodedInstruction : Prop :=
  ∀ (s : State) (bs : List Byte) (i : Instr),
    s.fetching = none → s.nmiPending = false → ¬IntDue s → s.halted = false → bs.length ≤ 65536 →
    (∀ (k : Nat) (hk : k < bs.length),
      s.isRam (s.pc + BitVec.ofNat 16 k) = true ∧ memRead s.mem (s.pc + BitVec.ofNat 16 k).toNat = bs[k]) →
    decode bs = .ok (i, []) →
    ∃ f,
      (s.params.resetRegs = .draw → step s = exec i f) ∧
      (s.params.resetRegs = .faultOnRead →
        match (i.reads f).find? fun n => decide (n ∈ s.unwritten) with
        | some n => step s = .fault (.readBeforeWrite n)
        | none => ∃ t, exec i f = .next t ∧
          step s = .next { t with unwritten := s.unwritten.filter fun n => decide (n ∉ i.writes) }) ∧
      let extra := bs.length - (encode i).length
      f = { s with
        pc := s.pc + BitVec.ofNat 16 bs.length, r := refreshCount s.r (ownM1 i + extra), intInhibit := .none, cycles := 4 * extra
        events := f.events } ∧
      f.events.length = bs.length ∧
      ∀ (k : Nat) (hk : k < bs.length), ∃ m1, f.events[k]? = some (.fetch (s.pc + BitVec.ofNat 16 k) bs[k] m1)

/-- R322, R1460: a step whose fetch phase meets only DD and FD bytes, from its boundary or from the middle of the chain, never completes: the
model hands back a state in the middle of the step (log 9), to which the same holds again. Of the whole machine only PC and R (and,
as the step began at a boundary, `int_inhibit`) have changed; inside the chain nothing is accepted, pending or not. -/
def Obligations.EndlessPrefixChainNeverCompletes : Prop :=
  ∀ s : State, (s.fetching = none → s.nmiPending = false ∧ ¬IntDue s ∧ s.halted = false) →
    (∀ c, s.fetching = some c → ∃ x, c = .idx x) →
    (∀ a : Word, s.isRam a = true ∧ (memRead s.mem a.toNat = 0xDD ∨ memRead s.mem a.toNat = 0xFD)) →
    ∃ t x, step s = .next t ∧
      t = { s with
        pc := s.pc + BitVec.ofNat 16 Config.maxUnits, r := refreshCount s.r Config.maxUnits, fetching := some (.idx x)
        intInhibit := if s.fetching = none then .none else s.intInhibit
        cycles := t.cycles, events := t.events }
end

