-- ==== Sys2Proof/Laws/Memory.lean ====
section
/-! SUPPORT. The laws of memory (20_memory R200, R202, R213): a read after a write, and the canonical form kept by every operation. -/

namespace Sys2Proof.Machine

/-- A write leaves every other address alone (R213). -/
theorem memRead_memWrite_ne (m : List Host.Cell) {a b : Nat} (v : Byte) (h : b ≠ a) :
    memRead (memWrite m a v) b = memRead m b := by
  induction m with
  | nil => by_cases hv : v = unlistedByte <;> simp [memWrite, memRead, hv, h.symm]
  | cons c rest ih =>
    obtain ⟨k, w⟩ := c
    have hk : a ≠ b := h.symm
    by_cases h1 : a < k
    · by_cases hv : v = unlistedByte <;> simp [memWrite, memRead, h1, hv, hk]
    · by_cases h2 : a = k
      · subst h2
        by_cases hv : v = unlistedByte <;> simp [memWrite, memRead, hv, hk]
      · simp [memWrite, memRead, h1, h2, ih]

/-- An address below every listed one reads as unlisted. -/
theorem memRead_of_lt {m : List Host.Cell} {a : Nat} (h : ∀ c ∈ m, a < c.1) : memRead m a = unlistedByte := by
  induction m with
  | nil => rfl
  | cons c rest ih =>
    have hc : c.1 ≠ a := by have := h c (by simp); omega
    simp only [memRead, hc, if_false]
    exact ih fun d hd => h d (by simp [hd])

/-- The tail of a canonical memory is canonical. -/
theorem Memory.wf_tail {c : Host.Cell} {m : List Host.Cell} (h : Memory.wf (c :: m)) : Memory.wf m :=
  ⟨(List.pairwise_cons.mp h.1).2, fun d hd => h.2 d (by simp [hd])⟩

/-- A read after a write to the same address gives the byte written (R213). -/
theorem memRead_memWrite_eq {m : List Host.Cell} (hm : Memory.wf m) (a : Nat) (v : Byte) : memRead (memWrite m a v) a = v := by
  induction m with
  | nil => by_cases hv : v = unlistedByte <;> simp [memWrite, memRead, hv]
  | cons c rest ih =>
    obtain ⟨k, w⟩ := c
    have hlow : ∀ d ∈ rest, k < d.1 := (List.pairwise_cons.mp hm.1).1
    have hrest := ih (Memory.wf_tail hm)
    by_cases h1 : a < k
    · by_cases hv : v = unlistedByte
      · have hk : k ≠ a := by omega
        simp only [memWrite, h1, hv, if_true, memRead, hk, if_false]
        exact memRead_of_lt fun d hd => Nat.lt_trans h1 (hlow d hd)
      · simp [memWrite, h1, hv, memRead]
    · by_cases h2 : a = k
      · subst h2
        by_cases hv : v = unlistedByte
        · simpa [memWrite, hv] using memRead_of_lt hlow
        · simp [memWrite, hv, memRead]
      · have hk : k ≠ a := fun h => h2 h.symm
        simpa [memWrite, h1, h2, memRead, hk] using hrest

/-- What the cells of a written memory can be: the new one, or old ones. -/
theorem mem_memWrite {m : List Host.Cell} {a : Nat} {v : Byte} {c : Host.Cell} (h : c ∈ memWrite m a v) :
    c ∈ m ∨ (c = (a, v) ∧ v ≠ unlistedByte) := by
  induction m with
  | nil => by_cases hv : v = unlistedByte <;> simp_all [memWrite]
  | cons d rest ih =>
    obtain ⟨k, w⟩ := d
    by_cases h1 : a < k <;> by_cases h2 : a = k <;> by_cases hv : v = unlistedByte <;> simp_all [memWrite] <;> grind

/-- A write keeps the canonical form. -/
theorem memWrite_wf {m : List Host.Cell} (hm : Memory.wf m) {a : Nat} (ha : a < 65536) (v : Byte) : Memory.wf (memWrite m a v) := by
  refine ⟨?_, fun c hc => ?_⟩
  · obtain ⟨hp, -⟩ := hm
    induction m with
    | nil => by_cases hv : v = unlistedByte <;> simp [memWrite, hv]
    | cons d rest ih =>
      obtain ⟨k, w⟩ := d
      obtain ⟨hlow, hp'⟩ := List.pairwise_cons.mp hp
      by_cases h1 : a < k
      · by_cases hv : v = unlistedByte
        · simp only [memWrite, h1, hv, if_true]; exact hp
        · simp only [memWrite, h1, hv, if_true, if_false]
          refine List.pairwise_cons.mpr ⟨fun c hc => ?_, hp⟩
          rcases List.mem_cons.mp hc with rfl | hc
          · exact h1
          · exact Nat.lt_trans h1 (hlow c hc)
      · by_cases h2 : a = k
        · by_cases hv : v = unlistedByte
          · simp only [memWrite, h2, hv, if_true, lt_irrefl, if_false]; exact hp'
          · simp only [memWrite, h2, hv, if_true, lt_irrefl, if_false]
            exact List.pairwise_cons.mpr ⟨hlow, hp'⟩
        · simp only [memWrite, h1, h2, if_false]
          refine List.pairwise_cons.mpr ⟨fun c hc => ?_, ih hp'⟩
          rcases mem_memWrite hc with hc | ⟨rfl, -⟩
          · exact hlow c hc
          · show k < a
            omega
  · rcases mem_memWrite hc with hc | ⟨rfl, hv⟩
    · exact hm.2 c hc
    · exact ⟨ha, hv⟩

/-- Placing bytes keeps the canonical form. -/
theorem memLoad_wf {m : List Host.Cell} (hm : Memory.wf m) (a : Word) (bs : List Byte) : Memory.wf (memLoad m a bs) := by
  induction bs generalizing m a with
  | nil => exact hm
  | cons v vs ih => exact ih (memWrite_wf hm a.isLt v) (a + 1)

/-- The memory of the machine after reset has the canonical form. -/
theorem State.reset_mem_wf : Memory.wf State.reset.mem := by decide

end Sys2Proof.Machine
end

