-- ==== Sys2Proof/Laws/State.lean ====
section
/-! SUPPORT. One lemma per field per update of State (10_state R100), each true by rfl, so that no proof unfolds a record update. -/

namespace Sys2Proof.Machine

/-! ## setRegs -/

@[simp] theorem State.setRegs_regs (s : State) (v : RegFile) : (s.setRegs v).regs = v := rfl
@[simp] theorem State.setRegs_shadow (s : State) (v : RegFile) : (s.setRegs v).shadow = s.shadow := rfl
@[simp] theorem State.setRegs_ix (s : State) (v : RegFile) : (s.setRegs v).ix = s.ix := rfl
@[simp] theorem State.setRegs_iy (s : State) (v : RegFile) : (s.setRegs v).iy = s.iy := rfl
@[simp] theorem State.setRegs_sp (s : State) (v : RegFile) : (s.setRegs v).sp = s.sp := rfl
@[simp] theorem State.setRegs_pc (s : State) (v : RegFile) : (s.setRegs v).pc = s.pc := rfl
@[simp] theorem State.setRegs_i (s : State) (v : RegFile) : (s.setRegs v).i = s.i := rfl
@[simp] theorem State.setRegs_r (s : State) (v : RegFile) : (s.setRegs v).r = s.r := rfl
@[simp] theorem State.setRegs_iff1 (s : State) (v : RegFile) : (s.setRegs v).iff1 = s.iff1 := rfl
@[simp] theorem State.setRegs_iff2 (s : State) (v : RegFile) : (s.setRegs v).iff2 = s.iff2 := rfl
@[simp] theorem State.setRegs_im (s : State) (v : RegFile) : (s.setRegs v).im = s.im := rfl
@[simp] theorem State.setRegs_halted (s : State) (v : RegFile) : (s.setRegs v).halted = s.halted := rfl
@[simp] theorem State.setRegs_intInhibit (s : State) (v : RegFile) : (s.setRegs v).intInhibit = s.intInhibit := rfl
@[simp] theorem State.setRegs_nmiPending (s : State) (v : RegFile) : (s.setRegs v).nmiPending = s.nmiPending := rfl
@[simp] theorem State.setRegs_intLine (s : State) (v : RegFile) : (s.setRegs v).intLine = s.intLine := rfl
@[simp] theorem State.setRegs_intData (s : State) (v : RegFile) : (s.setRegs v).intData = s.intData := rfl
@[simp] theorem State.setRegs_fetching (s : State) (v : RegFile) : (s.setRegs v).fetching = s.fetching := rfl
@[simp] theorem State.setRegs_mem (s : State) (v : RegFile) : (s.setRegs v).mem = s.mem := rfl
@[simp] theorem State.setRegs_events (s : State) (v : RegFile) : (s.setRegs v).events = s.events := rfl
@[simp] theorem State.setRegs_cycles (s : State) (v : RegFile) : (s.setRegs v).cycles = s.cycles := rfl
@[simp] theorem State.setRegs_ram (s : State) (v : RegFile) : (s.setRegs v).ram = s.ram := rfl
@[simp] theorem State.setRegs_ports (s : State) (v : RegFile) : (s.setRegs v).ports = s.ports := rfl
@[simp] theorem State.setRegs_draws (s : State) (v : RegFile) : (s.setRegs v).draws = s.draws := rfl
@[simp] theorem State.setRegs_params (s : State) (v : RegFile) : (s.setRegs v).params = s.params := rfl
@[simp] theorem State.setRegs_unwritten (s : State) (v : RegFile) : (s.setRegs v).unwritten = s.unwritten := rfl

/-! ## setShadow -/

@[simp] theorem State.setShadow_regs (s : State) (v : RegFile) : (s.setShadow v).regs = s.regs := rfl
@[simp] theorem State.setShadow_shadow (s : State) (v : RegFile) : (s.setShadow v).shadow = v := rfl
@[simp] theorem State.setShadow_ix (s : State) (v : RegFile) : (s.setShadow v).ix = s.ix := rfl
@[simp] theorem State.setShadow_iy (s : State) (v : RegFile) : (s.setShadow v).iy = s.iy := rfl
@[simp] theorem State.setShadow_sp (s : State) (v : RegFile) : (s.setShadow v).sp = s.sp := rfl
@[simp] theorem State.setShadow_pc (s : State) (v : RegFile) : (s.setShadow v).pc = s.pc := rfl
@[simp] theorem State.setShadow_i (s : State) (v : RegFile) : (s.setShadow v).i = s.i := rfl
@[simp] theorem State.setShadow_r (s : State) (v : RegFile) : (s.setShadow v).r = s.r := rfl
@[simp] theorem State.setShadow_iff1 (s : State) (v : RegFile) : (s.setShadow v).iff1 = s.iff1 := rfl
@[simp] theorem State.setShadow_iff2 (s : State) (v : RegFile) : (s.setShadow v).iff2 = s.iff2 := rfl
@[simp] theorem State.setShadow_im (s : State) (v : RegFile) : (s.setShadow v).im = s.im := rfl
@[simp] theorem State.setShadow_halted (s : State) (v : RegFile) : (s.setShadow v).halted = s.halted := rfl
@[simp] theorem State.setShadow_intInhibit (s : State) (v : RegFile) : (s.setShadow v).intInhibit = s.intInhibit := rfl
@[simp] theorem State.setShadow_nmiPending (s : State) (v : RegFile) : (s.setShadow v).nmiPending = s.nmiPending := rfl
@[simp] theorem State.setShadow_intLine (s : State) (v : RegFile) : (s.setShadow v).intLine = s.intLine := rfl
@[simp] theorem State.setShadow_intData (s : State) (v : RegFile) : (s.setShadow v).intData = s.intData := rfl
@[simp] theorem State.setShadow_fetching (s : State) (v : RegFile) : (s.setShadow v).fetching = s.fetching := rfl
@[simp] theorem State.setShadow_mem (s : State) (v : RegFile) : (s.setShadow v).mem = s.mem := rfl
@[simp] theorem State.setShadow_events (s : State) (v : RegFile) : (s.setShadow v).events = s.events := rfl
@[simp] theorem State.setShadow_cycles (s : State) (v : RegFile) : (s.setShadow v).cycles = s.cycles := rfl
@[simp] theorem State.setShadow_ram (s : State) (v : RegFile) : (s.setShadow v).ram = s.ram := rfl
@[simp] theorem State.setShadow_ports (s : State) (v : RegFile) : (s.setShadow v).ports = s.ports := rfl
@[simp] theorem State.setShadow_draws (s : State) (v : RegFile) : (s.setShadow v).draws = s.draws := rfl
@[simp] theorem State.setShadow_params (s : State) (v : RegFile) : (s.setShadow v).params = s.params := rfl
@[simp] theorem State.setShadow_unwritten (s : State) (v : RegFile) : (s.setShadow v).unwritten = s.unwritten := rfl

/-! ## setIx -/

@[simp] theorem State.setIx_regs (s : State) (v : Word) : (s.setIx v).regs = s.regs := rfl
@[simp] theorem State.setIx_shadow (s : State) (v : Word) : (s.setIx v).shadow = s.shadow := rfl
@[simp] theorem State.setIx_ix (s : State) (v : Word) : (s.setIx v).ix = v := rfl
@[simp] theorem State.setIx_iy (s : State) (v : Word) : (s.setIx v).iy = s.iy := rfl
@[simp] theorem State.setIx_sp (s : State) (v : Word) : (s.setIx v).sp = s.sp := rfl
@[simp] theorem State.setIx_pc (s : State) (v : Word) : (s.setIx v).pc = s.pc := rfl
@[simp] theorem State.setIx_i (s : State) (v : Word) : (s.setIx v).i = s.i := rfl
@[simp] theorem State.setIx_r (s : State) (v : Word) : (s.setIx v).r = s.r := rfl
@[simp] theorem State.setIx_iff1 (s : State) (v : Word) : (s.setIx v).iff1 = s.iff1 := rfl
@[simp] theorem State.setIx_iff2 (s : State) (v : Word) : (s.setIx v).iff2 = s.iff2 := rfl
@[simp] theorem State.setIx_im (s : State) (v : Word) : (s.setIx v).im = s.im := rfl
@[simp] theorem State.setIx_halted (s : State) (v : Word) : (s.setIx v).halted = s.halted := rfl
@[simp] theorem State.setIx_intInhibit (s : State) (v : Word) : (s.setIx v).intInhibit = s.intInhibit := rfl
@[simp] theorem State.setIx_nmiPending (s : State) (v : Word) : (s.setIx v).nmiPending = s.nmiPending := rfl
@[simp] theorem State.setIx_intLine (s : State) (v : Word) : (s.setIx v).intLine = s.intLine := rfl
@[simp] theorem State.setIx_intData (s : State) (v : Word) : (s.setIx v).intData = s.intData := rfl
@[simp] theorem State.setIx_fetching (s : State) (v : Word) : (s.setIx v).fetching = s.fetching := rfl
@[simp] theorem State.setIx_mem (s : State) (v : Word) : (s.setIx v).mem = s.mem := rfl
@[simp] theorem State.setIx_events (s : State) (v : Word) : (s.setIx v).events = s.events := rfl
@[simp] theorem State.setIx_cycles (s : State) (v : Word) : (s.setIx v).cycles = s.cycles := rfl
@[simp] theorem State.setIx_ram (s : State) (v : Word) : (s.setIx v).ram = s.ram := rfl
@[simp] theorem State.setIx_ports (s : State) (v : Word) : (s.setIx v).ports = s.ports := rfl
@[simp] theorem State.setIx_draws (s : State) (v : Word) : (s.setIx v).draws = s.draws := rfl
@[simp] theorem State.setIx_params (s : State) (v : Word) : (s.setIx v).params = s.params := rfl
@[simp] theorem State.setIx_unwritten (s : State) (v : Word) : (s.setIx v).unwritten = s.unwritten := rfl

/-! ## setIy -/

@[simp] theorem State.setIy_regs (s : State) (v : Word) : (s.setIy v).regs = s.regs := rfl
@[simp] theorem State.setIy_shadow (s : State) (v : Word) : (s.setIy v).shadow = s.shadow := rfl
@[simp] theorem State.setIy_ix (s : State) (v : Word) : (s.setIy v).ix = s.ix := rfl
@[simp] theorem State.setIy_iy (s : State) (v : Word) : (s.setIy v).iy = v := rfl
@[simp] theorem State.setIy_sp (s : State) (v : Word) : (s.setIy v).sp = s.sp := rfl
@[simp] theorem State.setIy_pc (s : State) (v : Word) : (s.setIy v).pc = s.pc := rfl
@[simp] theorem State.setIy_i (s : State) (v : Word) : (s.setIy v).i = s.i := rfl
@[simp] theorem State.setIy_r (s : State) (v : Word) : (s.setIy v).r = s.r := rfl
@[simp] theorem State.setIy_iff1 (s : State) (v : Word) : (s.setIy v).iff1 = s.iff1 := rfl
@[simp] theorem State.setIy_iff2 (s : State) (v : Word) : (s.setIy v).iff2 = s.iff2 := rfl
@[simp] theorem State.setIy_im (s : State) (v : Word) : (s.setIy v).im = s.im := rfl
@[simp] theorem State.setIy_halted (s : State) (v : Word) : (s.setIy v).halted = s.halted := rfl
@[simp] theorem State.setIy_intInhibit (s : State) (v : Word) : (s.setIy v).intInhibit = s.intInhibit := rfl
@[simp] theorem State.setIy_nmiPending (s : State) (v : Word) : (s.setIy v).nmiPending = s.nmiPending := rfl
@[simp] theorem State.setIy_intLine (s : State) (v : Word) : (s.setIy v).intLine = s.intLine := rfl
@[simp] theorem State.setIy_intData (s : State) (v : Word) : (s.setIy v).intData = s.intData := rfl
@[simp] theorem State.setIy_fetching (s : State) (v : Word) : (s.setIy v).fetching = s.fetching := rfl
@[simp] theorem State.setIy_mem (s : State) (v : Word) : (s.setIy v).mem = s.mem := rfl
@[simp] theorem State.setIy_events (s : State) (v : Word) : (s.setIy v).events = s.events := rfl
@[simp] theorem State.setIy_cycles (s : State) (v : Word) : (s.setIy v).cycles = s.cycles := rfl
@[simp] theorem State.setIy_ram (s : State) (v : Word) : (s.setIy v).ram = s.ram := rfl
@[simp] theorem State.setIy_ports (s : State) (v : Word) : (s.setIy v).ports = s.ports := rfl
@[simp] theorem State.setIy_draws (s : State) (v : Word) : (s.setIy v).draws = s.draws := rfl
@[simp] theorem State.setIy_params (s : State) (v : Word) : (s.setIy v).params = s.params := rfl
@[simp] theorem State.setIy_unwritten (s : State) (v : Word) : (s.setIy v).unwritten = s.unwritten := rfl

/-! ## setSp -/

@[simp] theorem State.setSp_regs (s : State) (v : Word) : (s.setSp v).regs = s.regs := rfl
@[simp] theorem State.setSp_shadow (s : State) (v : Word) : (s.setSp v).shadow = s.shadow := rfl
@[simp] theorem State.setSp_ix (s : State) (v : Word) : (s.setSp v).ix = s.ix := rfl
@[simp] theorem State.setSp_iy (s : State) (v : Word) : (s.setSp v).iy = s.iy := rfl
@[simp] theorem State.setSp_sp (s : State) (v : Word) : (s.setSp v).sp = v := rfl
@[simp] theorem State.setSp_pc (s : State) (v : Word) : (s.setSp v).pc = s.pc := rfl
@[simp] theorem State.setSp_i (s : State) (v : Word) : (s.setSp v).i = s.i := rfl
@[simp] theorem State.setSp_r (s : State) (v : Word) : (s.setSp v).r = s.r := rfl
@[simp] theorem State.setSp_iff1 (s : State) (v : Word) : (s.setSp v).iff1 = s.iff1 := rfl
@[simp] theorem State.setSp_iff2 (s : State) (v : Word) : (s.setSp v).iff2 = s.iff2 := rfl
@[simp] theorem State.setSp_im (s : State) (v : Word) : (s.setSp v).im = s.im := rfl
@[simp] theorem State.setSp_halted (s : State) (v : Word) : (s.setSp v).halted = s.halted := rfl
@[simp] theorem State.setSp_intInhibit (s : State) (v : Word) : (s.setSp v).intInhibit = s.intInhibit := rfl
@[simp] theorem State.setSp_nmiPending (s : State) (v : Word) : (s.setSp v).nmiPending = s.nmiPending := rfl
@[simp] theorem State.setSp_intLine (s : State) (v : Word) : (s.setSp v).intLine = s.intLine := rfl
@[simp] theorem State.setSp_intData (s : State) (v : Word) : (s.setSp v).intData = s.intData := rfl
@[simp] theorem State.setSp_fetching (s : State) (v : Word) : (s.setSp v).fetching = s.fetching := rfl
@[simp] theorem State.setSp_mem (s : State) (v : Word) : (s.setSp v).mem = s.mem := rfl
@[simp] theorem State.setSp_events (s : State) (v : Word) : (s.setSp v).events = s.events := rfl
@[simp] theorem State.setSp_cycles (s : State) (v : Word) : (s.setSp v).cycles = s.cycles := rfl
@[simp] theorem State.setSp_ram (s : State) (v : Word) : (s.setSp v).ram = s.ram := rfl
@[simp] theorem State.setSp_ports (s : State) (v : Word) : (s.setSp v).ports = s.ports := rfl
@[simp] theorem State.setSp_draws (s : State) (v : Word) : (s.setSp v).draws = s.draws := rfl
@[simp] theorem State.setSp_params (s : State) (v : Word) : (s.setSp v).params = s.params := rfl
@[simp] theorem State.setSp_unwritten (s : State) (v : Word) : (s.setSp v).unwritten = s.unwritten := rfl

/-! ## setPc -/

@[simp] theorem State.setPc_regs (s : State) (v : Word) : (s.setPc v).regs = s.regs := rfl
@[simp] theorem State.setPc_shadow (s : State) (v : Word) : (s.setPc v).shadow = s.shadow := rfl
@[simp] theorem State.setPc_ix (s : State) (v : Word) : (s.setPc v).ix = s.ix := rfl
@[simp] theorem State.setPc_iy (s : State) (v : Word) : (s.setPc v).iy = s.iy := rfl
@[simp] theorem State.setPc_sp (s : State) (v : Word) : (s.setPc v).sp = s.sp := rfl
@[simp] theorem State.setPc_pc (s : State) (v : Word) : (s.setPc v).pc = v := rfl
@[simp] theorem State.setPc_i (s : State) (v : Word) : (s.setPc v).i = s.i := rfl
@[simp] theorem State.setPc_r (s : State) (v : Word) : (s.setPc v).r = s.r := rfl
@[simp] theorem State.setPc_iff1 (s : State) (v : Word) : (s.setPc v).iff1 = s.iff1 := rfl
@[simp] theorem State.setPc_iff2 (s : State) (v : Word) : (s.setPc v).iff2 = s.iff2 := rfl
@[simp] theorem State.setPc_im (s : State) (v : Word) : (s.setPc v).im = s.im := rfl
@[simp] theorem State.setPc_halted (s : State) (v : Word) : (s.setPc v).halted = s.halted := rfl
@[simp] theorem State.setPc_intInhibit (s : State) (v : Word) : (s.setPc v).intInhibit = s.intInhibit := rfl
@[simp] theorem State.setPc_nmiPending (s : State) (v : Word) : (s.setPc v).nmiPending = s.nmiPending := rfl
@[simp] theorem State.setPc_intLine (s : State) (v : Word) : (s.setPc v).intLine = s.intLine := rfl
@[simp] theorem State.setPc_intData (s : State) (v : Word) : (s.setPc v).intData = s.intData := rfl
@[simp] theorem State.setPc_fetching (s : State) (v : Word) : (s.setPc v).fetching = s.fetching := rfl
@[simp] theorem State.setPc_mem (s : State) (v : Word) : (s.setPc v).mem = s.mem := rfl
@[simp] theorem State.setPc_events (s : State) (v : Word) : (s.setPc v).events = s.events := rfl
@[simp] theorem State.setPc_cycles (s : State) (v : Word) : (s.setPc v).cycles = s.cycles := rfl
@[simp] theorem State.setPc_ram (s : State) (v : Word) : (s.setPc v).ram = s.ram := rfl
@[simp] theorem State.setPc_ports (s : State) (v : Word) : (s.setPc v).ports = s.ports := rfl
@[simp] theorem State.setPc_draws (s : State) (v : Word) : (s.setPc v).draws = s.draws := rfl
@[simp] theorem State.setPc_params (s : State) (v : Word) : (s.setPc v).params = s.params := rfl
@[simp] theorem State.setPc_unwritten (s : State) (v : Word) : (s.setPc v).unwritten = s.unwritten := rfl

/-! ## setI -/

@[simp] theorem State.setI_regs (s : State) (v : Byte) : (s.setI v).regs = s.regs := rfl
@[simp] theorem State.setI_shadow (s : State) (v : Byte) : (s.setI v).shadow = s.shadow := rfl
@[simp] theorem State.setI_ix (s : State) (v : Byte) : (s.setI v).ix = s.ix := rfl
@[simp] theorem State.setI_iy (s : State) (v : Byte) : (s.setI v).iy = s.iy := rfl
@[simp] theorem State.setI_sp (s : State) (v : Byte) : (s.setI v).sp = s.sp := rfl
@[simp] theorem State.setI_pc (s : State) (v : Byte) : (s.setI v).pc = s.pc := rfl
@[simp] theorem State.setI_i (s : State) (v : Byte) : (s.setI v).i = v := rfl
@[simp] theorem State.setI_r (s : State) (v : Byte) : (s.setI v).r = s.r := rfl
@[simp] theorem State.setI_iff1 (s : State) (v : Byte) : (s.setI v).iff1 = s.iff1 := rfl
@[simp] theorem State.setI_iff2 (s : State) (v : Byte) : (s.setI v).iff2 = s.iff2 := rfl
@[simp] theorem State.setI_im (s : State) (v : Byte) : (s.setI v).im = s.im := rfl
@[simp] theorem State.setI_halted (s : State) (v : Byte) : (s.setI v).halted = s.halted := rfl
@[simp] theorem State.setI_intInhibit (s : State) (v : Byte) : (s.setI v).intInhibit = s.intInhibit := rfl
@[simp] theorem State.setI_nmiPending (s : State) (v : Byte) : (s.setI v).nmiPending = s.nmiPending := rfl
@[simp] theorem State.setI_intLine (s : State) (v : Byte) : (s.setI v).intLine = s.intLine := rfl
@[simp] theorem State.setI_intData (s : State) (v : Byte) : (s.setI v).intData = s.intData := rfl
@[simp] theorem State.setI_fetching (s : State) (v : Byte) : (s.setI v).fetching = s.fetching := rfl
@[simp] theorem State.setI_mem (s : State) (v : Byte) : (s.setI v).mem = s.mem := rfl
@[simp] theorem State.setI_events (s : State) (v : Byte) : (s.setI v).events = s.events := rfl
@[simp] theorem State.setI_cycles (s : State) (v : Byte) : (s.setI v).cycles = s.cycles := rfl
@[simp] theorem State.setI_ram (s : State) (v : Byte) : (s.setI v).ram = s.ram := rfl
@[simp] theorem State.setI_ports (s : State) (v : Byte) : (s.setI v).ports = s.ports := rfl
@[simp] theorem State.setI_draws (s : State) (v : Byte) : (s.setI v).draws = s.draws := rfl
@[simp] theorem State.setI_params (s : State) (v : Byte) : (s.setI v).params = s.params := rfl
@[simp] theorem State.setI_unwritten (s : State) (v : Byte) : (s.setI v).unwritten = s.unwritten := rfl

/-! ## setR -/

@[simp] theorem State.setR_regs (s : State) (v : Byte) : (s.setR v).regs = s.regs := rfl
@[simp] theorem State.setR_shadow (s : State) (v : Byte) : (s.setR v).shadow = s.shadow := rfl
@[simp] theorem State.setR_ix (s : State) (v : Byte) : (s.setR v).ix = s.ix := rfl
@[simp] theorem State.setR_iy (s : State) (v : Byte) : (s.setR v).iy = s.iy := rfl
@[simp] theorem State.setR_sp (s : State) (v : Byte) : (s.setR v).sp = s.sp := rfl
@[simp] theorem State.setR_pc (s : State) (v : Byte) : (s.setR v).pc = s.pc := rfl
@[simp] theorem State.setR_i (s : State) (v : Byte) : (s.setR v).i = s.i := rfl
@[simp] theorem State.setR_r (s : State) (v : Byte) : (s.setR v).r = v := rfl
@[simp] theorem State.setR_iff1 (s : State) (v : Byte) : (s.setR v).iff1 = s.iff1 := rfl
@[simp] theorem State.setR_iff2 (s : State) (v : Byte) : (s.setR v).iff2 = s.iff2 := rfl
@[simp] theorem State.setR_im (s : State) (v : Byte) : (s.setR v).im = s.im := rfl
@[simp] theorem State.setR_halted (s : State) (v : Byte) : (s.setR v).halted = s.halted := rfl
@[simp] theorem State.setR_intInhibit (s : State) (v : Byte) : (s.setR v).intInhibit = s.intInhibit := rfl
@[simp] theorem State.setR_nmiPending (s : State) (v : Byte) : (s.setR v).nmiPending = s.nmiPending := rfl
@[simp] theorem State.setR_intLine (s : State) (v : Byte) : (s.setR v).intLine = s.intLine := rfl
@[simp] theorem State.setR_intData (s : State) (v : Byte) : (s.setR v).intData = s.intData := rfl
@[simp] theorem State.setR_fetching (s : State) (v : Byte) : (s.setR v).fetching = s.fetching := rfl
@[simp] theorem State.setR_mem (s : State) (v : Byte) : (s.setR v).mem = s.mem := rfl
@[simp] theorem State.setR_events (s : State) (v : Byte) : (s.setR v).events = s.events := rfl
@[simp] theorem State.setR_cycles (s : State) (v : Byte) : (s.setR v).cycles = s.cycles := rfl
@[simp] theorem State.setR_ram (s : State) (v : Byte) : (s.setR v).ram = s.ram := rfl
@[simp] theorem State.setR_ports (s : State) (v : Byte) : (s.setR v).ports = s.ports := rfl
@[simp] theorem State.setR_draws (s : State) (v : Byte) : (s.setR v).draws = s.draws := rfl
@[simp] theorem State.setR_params (s : State) (v : Byte) : (s.setR v).params = s.params := rfl
@[simp] theorem State.setR_unwritten (s : State) (v : Byte) : (s.setR v).unwritten = s.unwritten := rfl

/-! ## setIff1 -/

@[simp] theorem State.setIff1_regs (s : State) (v : Bool) : (s.setIff1 v).regs = s.regs := rfl
@[simp] theorem State.setIff1_shadow (s : State) (v : Bool) : (s.setIff1 v).shadow = s.shadow := rfl
@[simp] theorem State.setIff1_ix (s : State) (v : Bool) : (s.setIff1 v).ix = s.ix := rfl
@[simp] theorem State.setIff1_iy (s : State) (v : Bool) : (s.setIff1 v).iy = s.iy := rfl
@[simp] theorem State.setIff1_sp (s : State) (v : Bool) : (s.setIff1 v).sp = s.sp := rfl
@[simp] theorem State.setIff1_pc (s : State) (v : Bool) : (s.setIff1 v).pc = s.pc := rfl
@[simp] theorem State.setIff1_i (s : State) (v : Bool) : (s.setIff1 v).i = s.i := rfl
@[simp] theorem State.setIff1_r (s : State) (v : Bool) : (s.setIff1 v).r = s.r := rfl
@[simp] theorem State.setIff1_iff1 (s : State) (v : Bool) : (s.setIff1 v).iff1 = v := rfl
@[simp] theorem State.setIff1_iff2 (s : State) (v : Bool) : (s.setIff1 v).iff2 = s.iff2 := rfl
@[simp] theorem State.setIff1_im (s : State) (v : Bool) : (s.setIff1 v).im = s.im := rfl
@[simp] theorem State.setIff1_halted (s : State) (v : Bool) : (s.setIff1 v).halted = s.halted := rfl
@[simp] theorem State.setIff1_intInhibit (s : State) (v : Bool) : (s.setIff1 v).intInhibit = s.intInhibit := rfl
@[simp] theorem State.setIff1_nmiPending (s : State) (v : Bool) : (s.setIff1 v).nmiPending = s.nmiPending := rfl
@[simp] theorem State.setIff1_intLine (s : State) (v : Bool) : (s.setIff1 v).intLine = s.intLine := rfl
@[simp] theorem State.setIff1_intData (s : State) (v : Bool) : (s.setIff1 v).intData = s.intData := rfl
@[simp] theorem State.setIff1_fetching (s : State) (v : Bool) : (s.setIff1 v).fetching = s.fetching := rfl
@[simp] theorem State.setIff1_mem (s : State) (v : Bool) : (s.setIff1 v).mem = s.mem := rfl
@[simp] theorem State.setIff1_events (s : State) (v : Bool) : (s.setIff1 v).events = s.events := rfl
@[simp] theorem State.setIff1_cycles (s : State) (v : Bool) : (s.setIff1 v).cycles = s.cycles := rfl
@[simp] theorem State.setIff1_ram (s : State) (v : Bool) : (s.setIff1 v).ram = s.ram := rfl
@[simp] theorem State.setIff1_ports (s : State) (v : Bool) : (s.setIff1 v).ports = s.ports := rfl
@[simp] theorem State.setIff1_draws (s : State) (v : Bool) : (s.setIff1 v).draws = s.draws := rfl
@[simp] theorem State.setIff1_params (s : State) (v : Bool) : (s.setIff1 v).params = s.params := rfl
@[simp] theorem State.setIff1_unwritten (s : State) (v : Bool) : (s.setIff1 v).unwritten = s.unwritten := rfl

/-! ## setIff2 -/

@[simp] theorem State.setIff2_regs (s : State) (v : Bool) : (s.setIff2 v).regs = s.regs := rfl
@[simp] theorem State.setIff2_shadow (s : State) (v : Bool) : (s.setIff2 v).shadow = s.shadow := rfl
@[simp] theorem State.setIff2_ix (s : State) (v : Bool) : (s.setIff2 v).ix = s.ix := rfl
@[simp] theorem State.setIff2_iy (s : State) (v : Bool) : (s.setIff2 v).iy = s.iy := rfl
@[simp] theorem State.setIff2_sp (s : State) (v : Bool) : (s.setIff2 v).sp = s.sp := rfl
@[simp] theorem State.setIff2_pc (s : State) (v : Bool) : (s.setIff2 v).pc = s.pc := rfl
@[simp] theorem State.setIff2_i (s : State) (v : Bool) : (s.setIff2 v).i = s.i := rfl
@[simp] theorem State.setIff2_r (s : State) (v : Bool) : (s.setIff2 v).r = s.r := rfl
@[simp] theorem State.setIff2_iff1 (s : State) (v : Bool) : (s.setIff2 v).iff1 = s.iff1 := rfl
@[simp] theorem State.setIff2_iff2 (s : State) (v : Bool) : (s.setIff2 v).iff2 = v := rfl
@[simp] theorem State.setIff2_im (s : State) (v : Bool) : (s.setIff2 v).im = s.im := rfl
@[simp] theorem State.setIff2_halted (s : State) (v : Bool) : (s.setIff2 v).halted = s.halted := rfl
@[simp] theorem State.setIff2_intInhibit (s : State) (v : Bool) : (s.setIff2 v).intInhibit = s.intInhibit := rfl
@[simp] theorem State.setIff2_nmiPending (s : State) (v : Bool) : (s.setIff2 v).nmiPending = s.nmiPending := rfl
@[simp] theorem State.setIff2_intLine (s : State) (v : Bool) : (s.setIff2 v).intLine = s.intLine := rfl
@[simp] theorem State.setIff2_intData (s : State) (v : Bool) : (s.setIff2 v).intData = s.intData := rfl
@[simp] theorem State.setIff2_fetching (s : State) (v : Bool) : (s.setIff2 v).fetching = s.fetching := rfl
@[simp] theorem State.setIff2_mem (s : State) (v : Bool) : (s.setIff2 v).mem = s.mem := rfl
@[simp] theorem State.setIff2_events (s : State) (v : Bool) : (s.setIff2 v).events = s.events := rfl
@[simp] theorem State.setIff2_cycles (s : State) (v : Bool) : (s.setIff2 v).cycles = s.cycles := rfl
@[simp] theorem State.setIff2_ram (s : State) (v : Bool) : (s.setIff2 v).ram = s.ram := rfl
@[simp] theorem State.setIff2_ports (s : State) (v : Bool) : (s.setIff2 v).ports = s.ports := rfl
@[simp] theorem State.setIff2_draws (s : State) (v : Bool) : (s.setIff2 v).draws = s.draws := rfl
@[simp] theorem State.setIff2_params (s : State) (v : Bool) : (s.setIff2 v).params = s.params := rfl
@[simp] theorem State.setIff2_unwritten (s : State) (v : Bool) : (s.setIff2 v).unwritten = s.unwritten := rfl

/-! ## setIm -/

@[simp] theorem State.setIm_regs (s : State) (v : IntMode) : (s.setIm v).regs = s.regs := rfl
@[simp] theorem State.setIm_shadow (s : State) (v : IntMode) : (s.setIm v).shadow = s.shadow := rfl
@[simp] theorem State.setIm_ix (s : State) (v : IntMode) : (s.setIm v).ix = s.ix := rfl
@[simp] theorem State.setIm_iy (s : State) (v : IntMode) : (s.setIm v).iy = s.iy := rfl
@[simp] theorem State.setIm_sp (s : State) (v : IntMode) : (s.setIm v).sp = s.sp := rfl
@[simp] theorem State.setIm_pc (s : State) (v : IntMode) : (s.setIm v).pc = s.pc := rfl
@[simp] theorem State.setIm_i (s : State) (v : IntMode) : (s.setIm v).i = s.i := rfl
@[simp] theorem State.setIm_r (s : State) (v : IntMode) : (s.setIm v).r = s.r := rfl
@[simp] theorem State.setIm_iff1 (s : State) (v : IntMode) : (s.setIm v).iff1 = s.iff1 := rfl
@[simp] theorem State.setIm_iff2 (s : State) (v : IntMode) : (s.setIm v).iff2 = s.iff2 := rfl
@[simp] theorem State.setIm_im (s : State) (v : IntMode) : (s.setIm v).im = v := rfl
@[simp] theorem State.setIm_halted (s : State) (v : IntMode) : (s.setIm v).halted = s.halted := rfl
@[simp] theorem State.setIm_intInhibit (s : State) (v : IntMode) : (s.setIm v).intInhibit = s.intInhibit := rfl
@[simp] theorem State.setIm_nmiPending (s : State) (v : IntMode) : (s.setIm v).nmiPending = s.nmiPending := rfl
@[simp] theorem State.setIm_intLine (s : State) (v : IntMode) : (s.setIm v).intLine = s.intLine := rfl
@[simp] theorem State.setIm_intData (s : State) (v : IntMode) : (s.setIm v).intData = s.intData := rfl
@[simp] theorem State.setIm_fetching (s : State) (v : IntMode) : (s.setIm v).fetching = s.fetching := rfl
@[simp] theorem State.setIm_mem (s : State) (v : IntMode) : (s.setIm v).mem = s.mem := rfl
@[simp] theorem State.setIm_events (s : State) (v : IntMode) : (s.setIm v).events = s.events := rfl
@[simp] theorem State.setIm_cycles (s : State) (v : IntMode) : (s.setIm v).cycles = s.cycles := rfl
@[simp] theorem State.setIm_ram (s : State) (v : IntMode) : (s.setIm v).ram = s.ram := rfl
@[simp] theorem State.setIm_ports (s : State) (v : IntMode) : (s.setIm v).ports = s.ports := rfl
@[simp] theorem State.setIm_draws (s : State) (v : IntMode) : (s.setIm v).draws = s.draws := rfl
@[simp] theorem State.setIm_params (s : State) (v : IntMode) : (s.setIm v).params = s.params := rfl
@[simp] theorem State.setIm_unwritten (s : State) (v : IntMode) : (s.setIm v).unwritten = s.unwritten := rfl

/-! ## setHalted -/

@[simp] theorem State.setHalted_regs (s : State) (v : Bool) : (s.setHalted v).regs = s.regs := rfl
@[simp] theorem State.setHalted_shadow (s : State) (v : Bool) : (s.setHalted v).shadow = s.shadow := rfl
@[simp] theorem State.setHalted_ix (s : State) (v : Bool) : (s.setHalted v).ix = s.ix := rfl
@[simp] theorem State.setHalted_iy (s : State) (v : Bool) : (s.setHalted v).iy = s.iy := rfl
@[simp] theorem State.setHalted_sp (s : State) (v : Bool) : (s.setHalted v).sp = s.sp := rfl
@[simp] theorem State.setHalted_pc (s : State) (v : Bool) : (s.setHalted v).pc = s.pc := rfl
@[simp] theorem State.setHalted_i (s : State) (v : Bool) : (s.setHalted v).i = s.i := rfl
@[simp] theorem State.setHalted_r (s : State) (v : Bool) : (s.setHalted v).r = s.r := rfl
@[simp] theorem State.setHalted_iff1 (s : State) (v : Bool) : (s.setHalted v).iff1 = s.iff1 := rfl
@[simp] theorem State.setHalted_iff2 (s : State) (v : Bool) : (s.setHalted v).iff2 = s.iff2 := rfl
@[simp] theorem State.setHalted_im (s : State) (v : Bool) : (s.setHalted v).im = s.im := rfl
@[simp] theorem State.setHalted_halted (s : State) (v : Bool) : (s.setHalted v).halted = v := rfl
@[simp] theorem State.setHalted_intInhibit (s : State) (v : Bool) : (s.setHalted v).intInhibit = s.intInhibit := rfl
@[simp] theorem State.setHalted_nmiPending (s : State) (v : Bool) : (s.setHalted v).nmiPending = s.nmiPending := rfl
@[simp] theorem State.setHalted_intLine (s : State) (v : Bool) : (s.setHalted v).intLine = s.intLine := rfl
@[simp] theorem State.setHalted_intData (s : State) (v : Bool) : (s.setHalted v).intData = s.intData := rfl
@[simp] theorem State.setHalted_fetching (s : State) (v : Bool) : (s.setHalted v).fetching = s.fetching := rfl
@[simp] theorem State.setHalted_mem (s : State) (v : Bool) : (s.setHalted v).mem = s.mem := rfl
@[simp] theorem State.setHalted_events (s : State) (v : Bool) : (s.setHalted v).events = s.events := rfl
@[simp] theorem State.setHalted_cycles (s : State) (v : Bool) : (s.setHalted v).cycles = s.cycles := rfl
@[simp] theorem State.setHalted_ram (s : State) (v : Bool) : (s.setHalted v).ram = s.ram := rfl
@[simp] theorem State.setHalted_ports (s : State) (v : Bool) : (s.setHalted v).ports = s.ports := rfl
@[simp] theorem State.setHalted_draws (s : State) (v : Bool) : (s.setHalted v).draws = s.draws := rfl
@[simp] theorem State.setHalted_params (s : State) (v : Bool) : (s.setHalted v).params = s.params := rfl
@[simp] theorem State.setHalted_unwritten (s : State) (v : Bool) : (s.setHalted v).unwritten = s.unwritten := rfl

/-! ## setInhibit -/

@[simp] theorem State.setInhibit_regs (s : State) (v : IntInhibit) : (s.setInhibit v).regs = s.regs := rfl
@[simp] theorem State.setInhibit_shadow (s : State) (v : IntInhibit) : (s.setInhibit v).shadow = s.shadow := rfl
@[simp] theorem State.setInhibit_ix (s : State) (v : IntInhibit) : (s.setInhibit v).ix = s.ix := rfl
@[simp] theorem State.setInhibit_iy (s : State) (v : IntInhibit) : (s.setInhibit v).iy = s.iy := rfl
@[simp] theorem State.setInhibit_sp (s : State) (v : IntInhibit) : (s.setInhibit v).sp = s.sp := rfl
@[simp] theorem State.setInhibit_pc (s : State) (v : IntInhibit) : (s.setInhibit v).pc = s.pc := rfl
@[simp] theorem State.setInhibit_i (s : State) (v : IntInhibit) : (s.setInhibit v).i = s.i := rfl
@[simp] theorem State.setInhibit_r (s : State) (v : IntInhibit) : (s.setInhibit v).r = s.r := rfl
@[simp] theorem State.setInhibit_iff1 (s : State) (v : IntInhibit) : (s.setInhibit v).iff1 = s.iff1 := rfl
@[simp] theorem State.setInhibit_iff2 (s : State) (v : IntInhibit) : (s.setInhibit v).iff2 = s.iff2 := rfl
@[simp] theorem State.setInhibit_im (s : State) (v : IntInhibit) : (s.setInhibit v).im = s.im := rfl
@[simp] theorem State.setInhibit_halted (s : State) (v : IntInhibit) : (s.setInhibit v).halted = s.halted := rfl
@[simp] theorem State.setInhibit_intInhibit (s : State) (v : IntInhibit) : (s.setInhibit v).intInhibit = v := rfl
@[simp] theorem State.setInhibit_nmiPending (s : State) (v : IntInhibit) : (s.setInhibit v).nmiPending = s.nmiPending := rfl
@[simp] theorem State.setInhibit_intLine (s : State) (v : IntInhibit) : (s.setInhibit v).intLine = s.intLine := rfl
@[simp] theorem State.setInhibit_intData (s : State) (v : IntInhibit) : (s.setInhibit v).intData = s.intData := rfl
@[simp] theorem State.setInhibit_fetching (s : State) (v : IntInhibit) : (s.setInhibit v).fetching = s.fetching := rfl
@[simp] theorem State.setInhibit_mem (s : State) (v : IntInhibit) : (s.setInhibit v).mem = s.mem := rfl
@[simp] theorem State.setInhibit_events (s : State) (v : IntInhibit) : (s.setInhibit v).events = s.events := rfl
@[simp] theorem State.setInhibit_cycles (s : State) (v : IntInhibit) : (s.setInhibit v).cycles = s.cycles := rfl
@[simp] theorem State.setInhibit_ram (s : State) (v : IntInhibit) : (s.setInhibit v).ram = s.ram := rfl
@[simp] theorem State.setInhibit_ports (s : State) (v : IntInhibit) : (s.setInhibit v).ports = s.ports := rfl
@[simp] theorem State.setInhibit_draws (s : State) (v : IntInhibit) : (s.setInhibit v).draws = s.draws := rfl
@[simp] theorem State.setInhibit_params (s : State) (v : IntInhibit) : (s.setInhibit v).params = s.params := rfl
@[simp] theorem State.setInhibit_unwritten (s : State) (v : IntInhibit) : (s.setInhibit v).unwritten = s.unwritten := rfl

/-! ## setNmi -/

@[simp] theorem State.setNmi_regs (s : State) (v : Bool) : (s.setNmi v).regs = s.regs := rfl
@[simp] theorem State.setNmi_shadow (s : State) (v : Bool) : (s.setNmi v).shadow = s.shadow := rfl
@[simp] theorem State.setNmi_ix (s : State) (v : Bool) : (s.setNmi v).ix = s.ix := rfl
@[simp] theorem State.setNmi_iy (s : State) (v : Bool) : (s.setNmi v).iy = s.iy := rfl
@[simp] theorem State.setNmi_sp (s : State) (v : Bool) : (s.setNmi v).sp = s.sp := rfl
@[simp] theorem State.setNmi_pc (s : State) (v : Bool) : (s.setNmi v).pc = s.pc := rfl
@[simp] theorem State.setNmi_i (s : State) (v : Bool) : (s.setNmi v).i = s.i := rfl
@[simp] theorem State.setNmi_r (s : State) (v : Bool) : (s.setNmi v).r = s.r := rfl
@[simp] theorem State.setNmi_iff1 (s : State) (v : Bool) : (s.setNmi v).iff1 = s.iff1 := rfl
@[simp] theorem State.setNmi_iff2 (s : State) (v : Bool) : (s.setNmi v).iff2 = s.iff2 := rfl
@[simp] theorem State.setNmi_im (s : State) (v : Bool) : (s.setNmi v).im = s.im := rfl
@[simp] theorem State.setNmi_halted (s : State) (v : Bool) : (s.setNmi v).halted = s.halted := rfl
@[simp] theorem State.setNmi_intInhibit (s : State) (v : Bool) : (s.setNmi v).intInhibit = s.intInhibit := rfl
@[simp] theorem State.setNmi_nmiPending (s : State) (v : Bool) : (s.setNmi v).nmiPending = v := rfl
@[simp] theorem State.setNmi_intLine (s : State) (v : Bool) : (s.setNmi v).intLine = s.intLine := rfl
@[simp] theorem State.setNmi_intData (s : State) (v : Bool) : (s.setNmi v).intData = s.intData := rfl
@[simp] theorem State.setNmi_fetching (s : State) (v : Bool) : (s.setNmi v).fetching = s.fetching := rfl
@[simp] theorem State.setNmi_mem (s : State) (v : Bool) : (s.setNmi v).mem = s.mem := rfl
@[simp] theorem State.setNmi_events (s : State) (v : Bool) : (s.setNmi v).events = s.events := rfl
@[simp] theorem State.setNmi_cycles (s : State) (v : Bool) : (s.setNmi v).cycles = s.cycles := rfl
@[simp] theorem State.setNmi_ram (s : State) (v : Bool) : (s.setNmi v).ram = s.ram := rfl
@[simp] theorem State.setNmi_ports (s : State) (v : Bool) : (s.setNmi v).ports = s.ports := rfl
@[simp] theorem State.setNmi_draws (s : State) (v : Bool) : (s.setNmi v).draws = s.draws := rfl
@[simp] theorem State.setNmi_params (s : State) (v : Bool) : (s.setNmi v).params = s.params := rfl
@[simp] theorem State.setNmi_unwritten (s : State) (v : Bool) : (s.setNmi v).unwritten = s.unwritten := rfl

/-! ## setFetching -/

@[simp] theorem State.setFetching_regs (s : State) (v : Option Context) : (s.setFetching v).regs = s.regs := rfl
@[simp] theorem State.setFetching_shadow (s : State) (v : Option Context) : (s.setFetching v).shadow = s.shadow := rfl
@[simp] theorem State.setFetching_ix (s : State) (v : Option Context) : (s.setFetching v).ix = s.ix := rfl
@[simp] theorem State.setFetching_iy (s : State) (v : Option Context) : (s.setFetching v).iy = s.iy := rfl
@[simp] theorem State.setFetching_sp (s : State) (v : Option Context) : (s.setFetching v).sp = s.sp := rfl
@[simp] theorem State.setFetching_pc (s : State) (v : Option Context) : (s.setFetching v).pc = s.pc := rfl
@[simp] theorem State.setFetching_i (s : State) (v : Option Context) : (s.setFetching v).i = s.i := rfl
@[simp] theorem State.setFetching_r (s : State) (v : Option Context) : (s.setFetching v).r = s.r := rfl
@[simp] theorem State.setFetching_iff1 (s : State) (v : Option Context) : (s.setFetching v).iff1 = s.iff1 := rfl
@[simp] theorem State.setFetching_iff2 (s : State) (v : Option Context) : (s.setFetching v).iff2 = s.iff2 := rfl
@[simp] theorem State.setFetching_im (s : State) (v : Option Context) : (s.setFetching v).im = s.im := rfl
@[simp] theorem State.setFetching_halted (s : State) (v : Option Context) : (s.setFetching v).halted = s.halted := rfl
@[simp] theorem State.setFetching_intInhibit (s : State) (v : Option Context) : (s.setFetching v).intInhibit = s.intInhibit := rfl
@[simp] theorem State.setFetching_nmiPending (s : State) (v : Option Context) : (s.setFetching v).nmiPending = s.nmiPending := rfl
@[simp] theorem State.setFetching_intLine (s : State) (v : Option Context) : (s.setFetching v).intLine = s.intLine := rfl
@[simp] theorem State.setFetching_intData (s : State) (v : Option Context) : (s.setFetching v).intData = s.intData := rfl
@[simp] theorem State.setFetching_fetching (s : State) (v : Option Context) : (s.setFetching v).fetching = v := rfl
@[simp] theorem State.setFetching_mem (s : State) (v : Option Context) : (s.setFetching v).mem = s.mem := rfl
@[simp] theorem State.setFetching_events (s : State) (v : Option Context) : (s.setFetching v).events = s.events := rfl
@[simp] theorem State.setFetching_cycles (s : State) (v : Option Context) : (s.setFetching v).cycles = s.cycles := rfl
@[simp] theorem State.setFetching_ram (s : State) (v : Option Context) : (s.setFetching v).ram = s.ram := rfl
@[simp] theorem State.setFetching_ports (s : State) (v : Option Context) : (s.setFetching v).ports = s.ports := rfl
@[simp] theorem State.setFetching_draws (s : State) (v : Option Context) : (s.setFetching v).draws = s.draws := rfl
@[simp] theorem State.setFetching_params (s : State) (v : Option Context) : (s.setFetching v).params = s.params := rfl
@[simp] theorem State.setFetching_unwritten (s : State) (v : Option Context) : (s.setFetching v).unwritten = s.unwritten := rfl

/-! ## setMem -/

@[simp] theorem State.setMem_regs (s : State) (v : List Host.Cell) : (s.setMem v).regs = s.regs := rfl
@[simp] theorem State.setMem_shadow (s : State) (v : List Host.Cell) : (s.setMem v).shadow = s.shadow := rfl
@[simp] theorem State.setMem_ix (s : State) (v : List Host.Cell) : (s.setMem v).ix = s.ix := rfl
@[simp] theorem State.setMem_iy (s : State) (v : List Host.Cell) : (s.setMem v).iy = s.iy := rfl
@[simp] theorem State.setMem_sp (s : State) (v : List Host.Cell) : (s.setMem v).sp = s.sp := rfl
@[simp] theorem State.setMem_pc (s : State) (v : List Host.Cell) : (s.setMem v).pc = s.pc := rfl
@[simp] theorem State.setMem_i (s : State) (v : List Host.Cell) : (s.setMem v).i = s.i := rfl
@[simp] theorem State.setMem_r (s : State) (v : List Host.Cell) : (s.setMem v).r = s.r := rfl
@[simp] theorem State.setMem_iff1 (s : State) (v : List Host.Cell) : (s.setMem v).iff1 = s.iff1 := rfl
@[simp] theorem State.setMem_iff2 (s : State) (v : List Host.Cell) : (s.setMem v).iff2 = s.iff2 := rfl
@[simp] theorem State.setMem_im (s : State) (v : List Host.Cell) : (s.setMem v).im = s.im := rfl
@[simp] theorem State.setMem_halted (s : State) (v : List Host.Cell) : (s.setMem v).halted = s.halted := rfl
@[simp] theorem State.setMem_intInhibit (s : State) (v : List Host.Cell) : (s.setMem v).intInhibit = s.intInhibit := rfl
@[simp] theorem State.setMem_nmiPending (s : State) (v : List Host.Cell) : (s.setMem v).nmiPending = s.nmiPending := rfl
@[simp] theorem State.setMem_intLine (s : State) (v : List Host.Cell) : (s.setMem v).intLine = s.intLine := rfl
@[simp] theorem State.setMem_intData (s : State) (v : List Host.Cell) : (s.setMem v).intData = s.intData := rfl
@[simp] theorem State.setMem_fetching (s : State) (v : List Host.Cell) : (s.setMem v).fetching = s.fetching := rfl
@[simp] theorem State.setMem_mem (s : State) (v : List Host.Cell) : (s.setMem v).mem = v := rfl
@[simp] theorem State.setMem_events (s : State) (v : List Host.Cell) : (s.setMem v).events = s.events := rfl
@[simp] theorem State.setMem_cycles (s : State) (v : List Host.Cell) : (s.setMem v).cycles = s.cycles := rfl
@[simp] theorem State.setMem_ram (s : State) (v : List Host.Cell) : (s.setMem v).ram = s.ram := rfl
@[simp] theorem State.setMem_ports (s : State) (v : List Host.Cell) : (s.setMem v).ports = s.ports := rfl
@[simp] theorem State.setMem_draws (s : State) (v : List Host.Cell) : (s.setMem v).draws = s.draws := rfl
@[simp] theorem State.setMem_params (s : State) (v : List Host.Cell) : (s.setMem v).params = s.params := rfl
@[simp] theorem State.setMem_unwritten (s : State) (v : List Host.Cell) : (s.setMem v).unwritten = s.unwritten := rfl

/-! ## setDraws -/

@[simp] theorem State.setDraws_regs (s : State) (v : Nat) : (s.setDraws v).regs = s.regs := rfl
@[simp] theorem State.setDraws_shadow (s : State) (v : Nat) : (s.setDraws v).shadow = s.shadow := rfl
@[simp] theorem State.setDraws_ix (s : State) (v : Nat) : (s.setDraws v).ix = s.ix := rfl
@[simp] theorem State.setDraws_iy (s : State) (v : Nat) : (s.setDraws v).iy = s.iy := rfl
@[simp] theorem State.setDraws_sp (s : State) (v : Nat) : (s.setDraws v).sp = s.sp := rfl
@[simp] theorem State.setDraws_pc (s : State) (v : Nat) : (s.setDraws v).pc = s.pc := rfl
@[simp] theorem State.setDraws_i (s : State) (v : Nat) : (s.setDraws v).i = s.i := rfl
@[simp] theorem State.setDraws_r (s : State) (v : Nat) : (s.setDraws v).r = s.r := rfl
@[simp] theorem State.setDraws_iff1 (s : State) (v : Nat) : (s.setDraws v).iff1 = s.iff1 := rfl
@[simp] theorem State.setDraws_iff2 (s : State) (v : Nat) : (s.setDraws v).iff2 = s.iff2 := rfl
@[simp] theorem State.setDraws_im (s : State) (v : Nat) : (s.setDraws v).im = s.im := rfl
@[simp] theorem State.setDraws_halted (s : State) (v : Nat) : (s.setDraws v).halted = s.halted := rfl
@[simp] theorem State.setDraws_intInhibit (s : State) (v : Nat) : (s.setDraws v).intInhibit = s.intInhibit := rfl
@[simp] theorem State.setDraws_nmiPending (s : State) (v : Nat) : (s.setDraws v).nmiPending = s.nmiPending := rfl
@[simp] theorem State.setDraws_intLine (s : State) (v : Nat) : (s.setDraws v).intLine = s.intLine := rfl
@[simp] theorem State.setDraws_intData (s : State) (v : Nat) : (s.setDraws v).intData = s.intData := rfl
@[simp] theorem State.setDraws_fetching (s : State) (v : Nat) : (s.setDraws v).fetching = s.fetching := rfl
@[simp] theorem State.setDraws_mem (s : State) (v : Nat) : (s.setDraws v).mem = s.mem := rfl
@[simp] theorem State.setDraws_events (s : State) (v : Nat) : (s.setDraws v).events = s.events := rfl
@[simp] theorem State.setDraws_cycles (s : State) (v : Nat) : (s.setDraws v).cycles = s.cycles := rfl
@[simp] theorem State.setDraws_ram (s : State) (v : Nat) : (s.setDraws v).ram = s.ram := rfl
@[simp] theorem State.setDraws_ports (s : State) (v : Nat) : (s.setDraws v).ports = s.ports := rfl
@[simp] theorem State.setDraws_draws (s : State) (v : Nat) : (s.setDraws v).draws = v := rfl
@[simp] theorem State.setDraws_params (s : State) (v : Nat) : (s.setDraws v).params = s.params := rfl
@[simp] theorem State.setDraws_unwritten (s : State) (v : Nat) : (s.setDraws v).unwritten = s.unwritten := rfl

/-! ## setUnwritten -/

@[simp] theorem State.setUnwritten_regs (s : State) (v : List RegName) : (s.setUnwritten v).regs = s.regs := rfl
@[simp] theorem State.setUnwritten_shadow (s : State) (v : List RegName) : (s.setUnwritten v).shadow = s.shadow := rfl
@[simp] theorem State.setUnwritten_ix (s : State) (v : List RegName) : (s.setUnwritten v).ix = s.ix := rfl
@[simp] theorem State.setUnwritten_iy (s : State) (v : List RegName) : (s.setUnwritten v).iy = s.iy := rfl
@[simp] theorem State.setUnwritten_sp (s : State) (v : List RegName) : (s.setUnwritten v).sp = s.sp := rfl
@[simp] theorem State.setUnwritten_pc (s : State) (v : List RegName) : (s.setUnwritten v).pc = s.pc := rfl
@[simp] theorem State.setUnwritten_i (s : State) (v : List RegName) : (s.setUnwritten v).i = s.i := rfl
@[simp] theorem State.setUnwritten_r (s : State) (v : List RegName) : (s.setUnwritten v).r = s.r := rfl
@[simp] theorem State.setUnwritten_iff1 (s : State) (v : List RegName) : (s.setUnwritten v).iff1 = s.iff1 := rfl
@[simp] theorem State.setUnwritten_iff2 (s : State) (v : List RegName) : (s.setUnwritten v).iff2 = s.iff2 := rfl
@[simp] theorem State.setUnwritten_im (s : State) (v : List RegName) : (s.setUnwritten v).im = s.im := rfl
@[simp] theorem State.setUnwritten_halted (s : State) (v : List RegName) : (s.setUnwritten v).halted = s.halted := rfl
@[simp] theorem State.setUnwritten_intInhibit (s : State) (v : List RegName) : (s.setUnwritten v).intInhibit = s.intInhibit := rfl
@[simp] theorem State.setUnwritten_nmiPending (s : State) (v : List RegName) : (s.setUnwritten v).nmiPending = s.nmiPending := rfl
@[simp] theorem State.setUnwritten_intLine (s : State) (v : List RegName) : (s.setUnwritten v).intLine = s.intLine := rfl
@[simp] theorem State.setUnwritten_intData (s : State) (v : List RegName) : (s.setUnwritten v).intData = s.intData := rfl
@[simp] theorem State.setUnwritten_fetching (s : State) (v : List RegName) : (s.setUnwritten v).fetching = s.fetching := rfl
@[simp] theorem State.setUnwritten_mem (s : State) (v : List RegName) : (s.setUnwritten v).mem = s.mem := rfl
@[simp] theorem State.setUnwritten_events (s : State) (v : List RegName) : (s.setUnwritten v).events = s.events := rfl
@[simp] theorem State.setUnwritten_cycles (s : State) (v : List RegName) : (s.setUnwritten v).cycles = s.cycles := rfl
@[simp] theorem State.setUnwritten_ram (s : State) (v : List RegName) : (s.setUnwritten v).ram = s.ram := rfl
@[simp] theorem State.setUnwritten_ports (s : State) (v : List RegName) : (s.setUnwritten v).ports = s.ports := rfl
@[simp] theorem State.setUnwritten_draws (s : State) (v : List RegName) : (s.setUnwritten v).draws = s.draws := rfl
@[simp] theorem State.setUnwritten_params (s : State) (v : List RegName) : (s.setUnwritten v).params = s.params := rfl
@[simp] theorem State.setUnwritten_unwritten (s : State) (v : List RegName) : (s.setUnwritten v).unwritten = v := rfl

/-! ## emit and tick -/

@[simp] theorem State.emit_regs (s : State) (e : Event) : (s.emit e).regs = s.regs := rfl
@[simp] theorem State.emit_shadow (s : State) (e : Event) : (s.emit e).shadow = s.shadow := rfl
@[simp] theorem State.emit_ix (s : State) (e : Event) : (s.emit e).ix = s.ix := rfl
@[simp] theorem State.emit_iy (s : State) (e : Event) : (s.emit e).iy = s.iy := rfl
@[simp] theorem State.emit_sp (s : State) (e : Event) : (s.emit e).sp = s.sp := rfl
@[simp] theorem State.emit_pc (s : State) (e : Event) : (s.emit e).pc = s.pc := rfl
@[simp] theorem State.emit_i (s : State) (e : Event) : (s.emit e).i = s.i := rfl
@[simp] theorem State.emit_r (s : State) (e : Event) : (s.emit e).r = s.r := rfl
@[simp] theorem State.emit_iff1 (s : State) (e : Event) : (s.emit e).iff1 = s.iff1 := rfl
@[simp] theorem State.emit_iff2 (s : State) (e : Event) : (s.emit e).iff2 = s.iff2 := rfl
@[simp] theorem State.emit_im (s : State) (e : Event) : (s.emit e).im = s.im := rfl
@[simp] theorem State.emit_halted (s : State) (e : Event) : (s.emit e).halted = s.halted := rfl
@[simp] theorem State.emit_intInhibit (s : State) (e : Event) : (s.emit e).intInhibit = s.intInhibit := rfl
@[simp] theorem State.emit_nmiPending (s : State) (e : Event) : (s.emit e).nmiPending = s.nmiPending := rfl
@[simp] theorem State.emit_intLine (s : State) (e : Event) : (s.emit e).intLine = s.intLine := rfl
@[simp] theorem State.emit_intData (s : State) (e : Event) : (s.emit e).intData = s.intData := rfl
@[simp] theorem State.emit_fetching (s : State) (e : Event) : (s.emit e).fetching = s.fetching := rfl
@[simp] theorem State.emit_mem (s : State) (e : Event) : (s.emit e).mem = s.mem := rfl
@[simp] theorem State.emit_events (s : State) (e : Event) : (s.emit e).events = s.events ++ [e] := rfl
@[simp] theorem State.emit_cycles (s : State) (e : Event) : (s.emit e).cycles = s.cycles := rfl
@[simp] theorem State.emit_ram (s : State) (e : Event) : (s.emit e).ram = s.ram := rfl
@[simp] theorem State.emit_ports (s : State) (e : Event) : (s.emit e).ports = s.ports := rfl
@[simp] theorem State.emit_draws (s : State) (e : Event) : (s.emit e).draws = s.draws := rfl
@[simp] theorem State.emit_params (s : State) (e : Event) : (s.emit e).params = s.params := rfl
@[simp] theorem State.emit_unwritten (s : State) (e : Event) : (s.emit e).unwritten = s.unwritten := rfl
@[simp] theorem State.tick_regs (s : State) (n : Nat) : (s.tick n).regs = s.regs := rfl
@[simp] theorem State.tick_shadow (s : State) (n : Nat) : (s.tick n).shadow = s.shadow := rfl
@[simp] theorem State.tick_ix (s : State) (n : Nat) : (s.tick n).ix = s.ix := rfl
@[simp] theorem State.tick_iy (s : State) (n : Nat) : (s.tick n).iy = s.iy := rfl
@[simp] theorem State.tick_sp (s : State) (n : Nat) : (s.tick n).sp = s.sp := rfl
@[simp] theorem State.tick_pc (s : State) (n : Nat) : (s.tick n).pc = s.pc := rfl
@[simp] theorem State.tick_i (s : State) (n : Nat) : (s.tick n).i = s.i := rfl
@[simp] theorem State.tick_r (s : State) (n : Nat) : (s.tick n).r = s.r := rfl
@[simp] theorem State.tick_iff1 (s : State) (n : Nat) : (s.tick n).iff1 = s.iff1 := rfl
@[simp] theorem State.tick_iff2 (s : State) (n : Nat) : (s.tick n).iff2 = s.iff2 := rfl
@[simp] theorem State.tick_im (s : State) (n : Nat) : (s.tick n).im = s.im := rfl
@[simp] theorem State.tick_halted (s : State) (n : Nat) : (s.tick n).halted = s.halted := rfl
@[simp] theorem State.tick_intInhibit (s : State) (n : Nat) : (s.tick n).intInhibit = s.intInhibit := rfl
@[simp] theorem State.tick_nmiPending (s : State) (n : Nat) : (s.tick n).nmiPending = s.nmiPending := rfl
@[simp] theorem State.tick_intLine (s : State) (n : Nat) : (s.tick n).intLine = s.intLine := rfl
@[simp] theorem State.tick_intData (s : State) (n : Nat) : (s.tick n).intData = s.intData := rfl
@[simp] theorem State.tick_fetching (s : State) (n : Nat) : (s.tick n).fetching = s.fetching := rfl
@[simp] theorem State.tick_mem (s : State) (n : Nat) : (s.tick n).mem = s.mem := rfl
@[simp] theorem State.tick_events (s : State) (n : Nat) : (s.tick n).events = s.events := rfl
@[simp] theorem State.tick_cycles (s : State) (n : Nat) : (s.tick n).cycles = s.cycles + n := rfl
@[simp] theorem State.tick_ram (s : State) (n : Nat) : (s.tick n).ram = s.ram := rfl
@[simp] theorem State.tick_ports (s : State) (n : Nat) : (s.tick n).ports = s.ports := rfl
@[simp] theorem State.tick_draws (s : State) (n : Nat) : (s.tick n).draws = s.draws := rfl
@[simp] theorem State.tick_params (s : State) (n : Nat) : (s.tick n).params = s.params := rfl
@[simp] theorem State.tick_unwritten (s : State) (n : Nat) : (s.tick n).unwritten = s.unwritten := rfl

end Sys2Proof.Machine
end

