-- ==== Sys2Proof/Laws/Words.lean ====
section
/-! SUPPORT. Words and their bytes (00_scope R8), the bits of a flag byte (10_state R110), and the register file (R101-R105). -/

namespace Sys2Proof

/-- The bits of `hi:lo` (00_scope R8). -/
theorem getLsbD_word (h l : Byte) (i : Nat) : (word h l).getLsbD i = if i < 8 then l.getLsbD i else h.getLsbD (i - 8) := by
  show (h ++ l : BitVec (8 + 8)).getLsbD i = _
  exact BitVec.getLsbD_append

@[simp] theorem hiByte_word (h l : Byte) : hiByte (word h l) = h := by
  apply BitVec.eq_of_getLsbD_eq
  intro i hi
  simp [hiByte, getLsbD_word, hi]

@[simp] theorem loByte_word (h l : Byte) : loByte (word h l) = l := by
  apply BitVec.eq_of_getLsbD_eq
  intro i hi
  simp [loByte, getLsbD_word, hi]

@[simp] theorem word_hiByte_loByte (w : Word) : word (hiByte w) (loByte w) = w := by
  apply BitVec.eq_of_getLsbD_eq
  intro i hi
  rw [getLsbD_word]
  by_cases h : i < 8
  · simp [h, loByte]
  · have : i - 8 < 8 := by omega
    have e : 8 + (i - 8) = i := by omega
    simp [h, hiByte, this, e]

/-- A word is its two bytes. -/
theorem word_ext {v w : Word} (h : hiByte v = hiByte w) (l : loByte v = loByte w) : v = w := by
  rw [← word_hiByte_loByte v, ← word_hiByte_loByte w, h, l]

namespace Machine

/-! ## The flag byte -/

section mkFlags
variable (s z y h x pv n c : Bool)

theorem mkFlags_bit7 : (mkFlags s z y h x pv n c).getLsbD 7 = s := by
  cases s <;> cases z <;> cases y <;> cases h <;> cases x <;> cases pv <;> cases n <;> cases c <;> rfl
theorem mkFlags_bit6 : (mkFlags s z y h x pv n c).getLsbD 6 = z := by
  cases s <;> cases z <;> cases y <;> cases h <;> cases x <;> cases pv <;> cases n <;> cases c <;> rfl
theorem mkFlags_bit5 : (mkFlags s z y h x pv n c).getLsbD 5 = y := by
  cases s <;> cases z <;> cases y <;> cases h <;> cases x <;> cases pv <;> cases n <;> cases c <;> rfl
theorem mkFlags_bit4 : (mkFlags s z y h x pv n c).getLsbD 4 = h := by
  cases s <;> cases z <;> cases y <;> cases h <;> cases x <;> cases pv <;> cases n <;> cases c <;> rfl
theorem mkFlags_bit3 : (mkFlags s z y h x pv n c).getLsbD 3 = x := by
  cases s <;> cases z <;> cases y <;> cases h <;> cases x <;> cases pv <;> cases n <;> cases c <;> rfl
theorem mkFlags_bit2 : (mkFlags s z y h x pv n c).getLsbD 2 = pv := by
  cases s <;> cases z <;> cases y <;> cases h <;> cases x <;> cases pv <;> cases n <;> cases c <;> rfl
theorem mkFlags_bit1 : (mkFlags s z y h x pv n c).getLsbD 1 = n := by
  cases s <;> cases z <;> cases y <;> cases h <;> cases x <;> cases pv <;> cases n <;> cases c <;> rfl
theorem mkFlags_bit0 : (mkFlags s z y h x pv n c).getLsbD 0 = c := by
  cases s <;> cases z <;> cases y <;> cases h <;> cases x <;> cases pv <;> cases n <;> cases c <;> rfl

@[simp] theorem mkFlags_get7 : (mkFlags s z y h x pv n c)[7] = s := mkFlags_bit7 s z y h x pv n c
@[simp] theorem mkFlags_get6 : (mkFlags s z y h x pv n c)[6] = z := mkFlags_bit6 s z y h x pv n c
@[simp] theorem mkFlags_get5 : (mkFlags s z y h x pv n c)[5] = y := mkFlags_bit5 s z y h x pv n c
@[simp] theorem mkFlags_get4 : (mkFlags s z y h x pv n c)[4] = h := mkFlags_bit4 s z y h x pv n c
@[simp] theorem mkFlags_get3 : (mkFlags s z y h x pv n c)[3] = x := mkFlags_bit3 s z y h x pv n c
@[simp] theorem mkFlags_get2 : (mkFlags s z y h x pv n c)[2] = pv := mkFlags_bit2 s z y h x pv n c
@[simp] theorem mkFlags_get1 : (mkFlags s z y h x pv n c)[1] = n := mkFlags_bit1 s z y h x pv n c
@[simp] theorem mkFlags_get0 : (mkFlags s z y h x pv n c)[0] = c := mkFlags_bit0 s z y h x pv n c

end mkFlags

/-! ## The register file -/

/-- A written register reads back, and every other one is kept (R302). -/
theorem RegFile.get_set (g : RegFile) (r q : Reg8) (v : Byte) : (g.set r v).get q = if q = r then v else g.get q := by
  cases r <;> cases q <;> rfl

@[simp] theorem RegFile.set_f (g : RegFile) (r : Reg8) (v : Byte) : (g.set r v).f = g.f := by cases r <;> rfl

@[simp] theorem RegFile.bc_setBc (g : RegFile) (v : Word) : (g.setBc v).bc = v := by simp [RegFile.bc, RegFile.setBc]
@[simp] theorem RegFile.de_setDe (g : RegFile) (v : Word) : (g.setDe v).de = v := by simp [RegFile.de, RegFile.setDe]
@[simp] theorem RegFile.hl_setHl (g : RegFile) (v : Word) : (g.setHl v).hl = v := by simp [RegFile.hl, RegFile.setHl]
@[simp] theorem RegFile.af_setAf (g : RegFile) (v : Word) : (g.setAf v).af = v := by simp [RegFile.af, RegFile.setAf]

/-- A written pair reads back, and every other one is kept (R303). -/
theorem State.getPair_setPair (s : State) (p q : Pair) (v : Word) :
    (s.setPair p v).getPair q = if q = p then v else s.getPair q := by
  cases p <;> cases q <;> simp [State.setPair, State.getPair, State.setBc, State.setDe, State.setHl, State.setSp, State.setRegs] <;> rfl

/-- The same for the pairs of PUSH and POP (R304). -/
theorem State.getPairQ_setPairQ (s : State) (p q : PairQ) (v : Word) :
    (s.setPairQ p v).getPairQ q = if q = p then v else s.getPairQ q := by
  cases p <;> cases q <;> simp [State.setPairQ, State.getPairQ, State.setBc, State.setDe, State.setHl, State.setAf, State.setRegs] <;> rfl

/-- A written index register reads back, and the other one is kept (R104). -/
theorem State.getIdx_setIdx (s : State) (x y : Idx) (v : Word) : (s.setIdx x v).getIdx y = if y = x then v else s.getIdx y := by
  cases x <;> cases y <;> rfl

end Machine

end Sys2Proof
end

