-- ==== Sys2Proof/Laws/Ops.lean ====
section
/-! SUPPORT. Each shared operation as one record: what it changes stands in it, everything else is the old state's (its frame). -/

namespace Sys2Proof.Machine

/-- Two states with the same plain RAM agree on which addresses are plain RAM (R219). -/
theorem State.isRam_congr {s t : State} (h : t.ram = s.ram) (a : Word) : t.isRam a = s.isRam a := by
  simp only [State.isRam, h]

/-- A read of plain RAM is the byte last written there (R213). -/
theorem State.memVal_of_ram {s : State} {a : Word} (h : s.isRam a = true) : s.memVal a = memRead s.mem a.toNat := by
  simp [State.memVal, h]

/-- How many free values a read of this address uses: one outside plain RAM (R219). -/
def State.readCost (s : State) (a : Word) : Nat := if s.isRam a then 0 else 1

/-- What a store of one byte makes of a memory: outside plain RAM, nothing (R219). -/
def State.ramWrite (s : State) (m : List Host.Cell) (a : Word) (v : Byte) : List Host.Cell :=
  if s.isRam a then memWrite m a.toNat v else m

theorem State.touch_eq (s : State) (a : Word) : s.touch a = { s with draws := s.draws + s.readCost a } := by
  unfold State.touch State.readCost; split <;> rfl

theorem State.touch_of_ram {s : State} {a : Word} (h : s.isRam a = true) : s.touch a = s := by
  simp [State.touch, h]

/-- `MemRead(a, 1)` (R10). -/
theorem State.readDone_eq (s : State) (a : Word) :
    s.readDone a = { s with draws := s.draws + s.readCost a, events := s.events ++ [.read a (s.memVal a)] } := by
  unfold State.readDone; rw [State.touch_eq]; rfl

/-- `MemRead(a, 2)` (R10, R210). -/
theorem State.readDone2_eq (s : State) (a : Word) :
    s.readDone2 a = { s with
      draws := s.draws + s.readCost a + s.readCost (a + 1)
      events := s.events ++ [.read a (s.memVal a), .read (a + 1) ((s.readDone a).memVal (a + 1))] } := by
  unfold State.readDone2
  rw [State.readDone_eq (s.readDone a), State.readDone_eq s a]
  simp [State.readCost, State.isRam]

/-- `MemWrite(a, 1, v)` (R10). -/
theorem State.store_eq (s : State) (a : Word) (v : Byte) :
    s.store a v = { s with mem := s.ramWrite s.mem a v, events := s.events ++ [.write a v] } := by
  unfold State.store State.ramWrite; split <;> rfl

/-- `MemWrite(a, 2, v)` (R10). -/
theorem State.store2_eq (s : State) (a v : Word) :
    s.store2 a v = { s with
      mem := s.ramWrite (s.ramWrite s.mem a (loByte v)) (a + 1) (hiByte v)
      events := s.events ++ [.write a (loByte v), .write (a + 1) (hiByte v)] } := by
  unfold State.store2
  rw [State.store_eq (s.store a (loByte v)), State.store_eq s a]
  simp [State.ramWrite, State.isRam]

/-- `IoRead(p)` (R10, R201). -/
theorem State.inDone_eq (s : State) (p : Word) :
    s.inDone p = { s with draws := s.draws + s.portCost, events := s.events ++ [.input p (s.portVal p)] } := rfl

/-- Under a device model an `IoRead` answers what the model lists, and 0xFF elsewhere (R1461). -/
theorem State.portVal_of_ports {s : State} {l : List (Word × Byte)} (h : s.portsAnswer l) (p : Word) :
    s.portVal p = (l.lookup p).getD 0xFF := by
  rw [State.portVal, show s.ports = some l from h]
  show portAnswer l p = _
  clear h
  induction l with
  | nil => rfl
  | cons c l ih =>
    obtain ⟨q, v⟩ := c
    by_cases h : q = p
    · simp [portAnswer, h]
    · rw [portAnswer, if_neg h, ih, List.lookup_cons, beq_false_of_ne (Ne.symm h)]

/-- `IoWrite(p, v)` (R10, R201). -/
theorem State.out_eq (s : State) (p : Word) (v : Byte) : s.out p v = { s with events := s.events ++ [.output p v] } := rfl

/-- `Push16(v)` (R10, R105). -/
theorem State.push_eq (s : State) (v : Word) :
    s.push v = { s with
      sp := s.sp - 2, mem := s.ramWrite (s.ramWrite s.mem (s.sp - 1) (hiByte v)) (s.sp - 2) (loByte v)
      events := s.events ++ [.write (s.sp - 1) (hiByte v), .write (s.sp - 2) (loByte v)] } := by
  have h : s.sp - 1 - 1 = s.sp - 2 := by bv_omega
  unfold State.push
  simp only [State.store_eq, State.setSp, h]
  simp [State.ramWrite, State.isRam]

/-- `Pop16()` (R10, R105). -/
theorem State.popDone_eq (s : State) :
    s.popDone = { s with
      sp := s.sp + 2, draws := s.draws + s.readCost s.sp + s.readCost (s.sp + 1)
      events := s.events ++ [.read s.sp (s.memVal s.sp), .read (s.sp + 1) ((s.readDone s.sp).memVal (s.sp + 1))] } := by
  unfold State.popDone
  rw [State.readDone2_eq]
  rfl

/-- `EX (SP),rr`, the memory half (R443). -/
theorem State.exSp_eq (s : State) (v : Word) :
    ((s.readDone2 s.sp).store (s.sp + 1) (hiByte v)).store s.sp (loByte v) = { s with
      draws := s.draws + s.readCost s.sp + s.readCost (s.sp + 1)
      mem := s.ramWrite (s.ramWrite s.mem (s.sp + 1) (hiByte v)) s.sp (loByte v)
      events := s.events ++ [.read s.sp (s.memVal s.sp), .read (s.sp + 1) ((s.readDone s.sp).memVal (s.sp + 1)),
        .write (s.sp + 1) (hiByte v), .write s.sp (loByte v)] } := by
  simp only [State.store_eq, State.readDone2_eq]
  simp [State.ramWrite, State.isRam]

/-- Read a byte and write one back (R210). -/
theorem State.rmw_eq (s : State) (a : Word) (w : Byte) :
    s.rmw a w = { s with
      draws := s.draws + s.readCost a, mem := s.ramWrite s.mem a w
      events := s.events ++ [.read a (s.memVal a), .write a w] } := by
  unfold State.rmw
  simp only [State.store_eq, State.readDone_eq]
  simp [State.ramWrite, State.isRam]

/-- `FetchOpcode()` (R10). -/
theorem State.fetchOpcode_eq (s : State) :
    s.fetchOpcode = { s with
      pc := s.pc + 1, r := refreshed s.r, draws := s.draws + s.readCost s.pc
      events := s.events ++ [.fetch s.pc (s.memVal s.pc) true] } := by
  unfold State.fetchOpcode State.refresh
  rw [State.touch_eq]
  rfl

/-- `FetchByte()` (R10). -/
theorem State.fetchByte_eq (s : State) :
    s.fetchByte = { s with
      pc := s.pc + 1, draws := s.draws + s.readCost s.pc, events := s.events ++ [.fetch s.pc (s.memVal s.pc) false] } := by
  unfold State.fetchByte
  rw [State.touch_eq]
  rfl

/-! ## RESET_REGS (10_state R130) -/

/-- Under DRAW no read faults. -/
@[simp] theorem State.unwrittenRead_of_draw {s : State} (h : s.params.resetRegs = .draw) (l : List RegName) : s.unwrittenRead l = none := by
  simp [State.unwrittenRead, h]

/-- The register a read faults on is one of those read, and unwritten under FAULT_ON_READ. -/
theorem State.unwrittenRead_some {s : State} {l : List RegName} {n : RegName} (h : s.unwrittenRead l = some n) :
    s.params.resetRegs = .faultOnRead ∧ n ∈ l ∧ n ∈ s.unwritten := by
  unfold State.unwrittenRead at h
  split at h
  · cases h
  · rename_i hp
    exact ⟨hp, List.mem_of_find?_eq_some h, by simpa using List.find?_some h⟩

/-- What a checked read can do: go on, or fault on an unwritten register. -/
theorem checkReads_cases (s : State) (l : List RegName) (r : Result) :
    (s.unwrittenRead l = none ∧ checkReads s l r = r) ∨
      ∃ n, s.unwrittenRead l = some n ∧ checkReads s l r = .fault (.readBeforeWrite n) := by
  unfold checkReads
  cases s.unwrittenRead l with
  | none => exact .inl ⟨rfl, rfl⟩
  | some n => exact .inr ⟨n, rfl, rfl⟩

/-- Nothing is read: nothing faults. -/
@[simp] theorem checkReads_nil (s : State) (r : Result) : checkReads s [] r = r := by
  unfold checkReads State.unwrittenRead
  cases s.params.resetRegs <;> rfl

/-! ## What a store makes of memory -/

/-- The byte at the address stored to. -/
theorem State.memRead_ramWrite_eq (s : State) {m : List Host.Cell} (hm : Memory.wf m) (a : Word) (v : Byte) :
    memRead (s.ramWrite m a v) a.toNat = if s.isRam a then v else memRead m a.toNat := by
  unfold State.ramWrite
  cases s.isRam a
  · simp
  · simpa using memRead_memWrite_eq hm a.toNat v

/-- Every other byte. -/
theorem State.memRead_ramWrite_ne (s : State) (m : List Host.Cell) {a : Word} {b : Nat} (v : Byte) (h : b ≠ a.toNat) :
    memRead (s.ramWrite m a v) b = memRead m b := by
  unfold State.ramWrite
  cases s.isRam a
  · simp
  · simpa using memRead_memWrite_ne m v h

/-- The canonical form is kept. -/
theorem State.ramWrite_wf (s : State) {m : List Host.Cell} (hm : Memory.wf m) (a : Word) (v : Byte) :
    Memory.wf (s.ramWrite m a v) := by
  unfold State.ramWrite
  split
  · exact memWrite_wf hm a.isLt v
  · exact hm

/-! ## R (10_state R123) -/

/-- The increment keeps bit 7 and counts the low seven bits. -/
theorem refreshed_toNat (r : Byte) : (refreshed r).toNat = r.toNat / 128 * 128 + (r.toNat % 128 + 1) % 128 := by
  have := r.isLt
  simp only [refreshed, BitVec.toNat_ofNat]
  omega

end Sys2Proof.Machine
end

