-- ==== Sys2Proof/Laws/Claims.lean ====
section
/-! SUPPORT. The words of the statements in terms of the model's operations. -/

namespace Sys2Proof.Machine

open Sys2Proof.Claims

/-- The effective address of the statements is the model's. -/
theorem effective_eq (s : State) (x : Idx) (d : Byte) : effective s x d = s.ea x d := by
  unfold effective State.ea sext16
  rw [BitVec.ofInt_add]
  congr 1
  simp

/-- The relative target of the statements is the model's. -/
theorem relative_eq (s : State) (e : Byte) : relative s e = s.rel e := by
  unfold relative State.rel sext16
  rw [BitVec.ofInt_add]
  congr 1
  simp

theorem holds_eq (cc : Cond) (f : Byte) : holds cc f = condHolds cc f := by
  cases cc <;> simp [holds, condHolds, zFlag, cFlag, pvFlag, sFlag]

theorem halfOf_getIdx (s : State) (x : Idx) (k : Half) : halfOf (s.getIdx x) k = s.getHalf x k := by cases k <;> rfl

/-- A store of one byte. -/
theorem storedByte_ramWrite {s : State} (hm : Memory.wf s.mem) (a : Word) (v : Byte) : StoredByte s (s.ramWrite s.mem a v) a v :=
  ⟨s.memRead_ramWrite_eq hm a v, fun _ h => s.memRead_ramWrite_ne s.mem v h⟩

theorem word_ne_succ (a : Word) : a.toNat ≠ (a + 1).toNat := by bv_omega

/-- A store of two bytes, the low one first. -/
theorem storedWord_lowFirst {s : State} (hm : Memory.wf s.mem) (a : Word) (lo hi : Byte) :
    StoredWord s (s.ramWrite (s.ramWrite s.mem a lo) (a + 1) hi) a lo hi := by
  refine ⟨?_, ?_, fun b h1 h2 => ?_⟩
  · rw [s.memRead_ramWrite_ne _ _ (word_ne_succ a), s.memRead_ramWrite_eq hm]
  · rw [s.memRead_ramWrite_eq (s.ramWrite_wf hm _ _), s.memRead_ramWrite_ne _ _ (word_ne_succ a).symm]
  · rw [s.memRead_ramWrite_ne _ _ h2, s.memRead_ramWrite_ne _ _ h1]

/-- A store of two bytes, the high one first. -/
theorem storedWord_highFirst {s : State} (hm : Memory.wf s.mem) (a : Word) (lo hi : Byte) :
    StoredWord s (s.ramWrite (s.ramWrite s.mem (a + 1) hi) a lo) a lo hi := by
  refine ⟨?_, ?_, fun b h1 h2 => ?_⟩
  · rw [s.memRead_ramWrite_eq (s.ramWrite_wf hm _ _), s.memRead_ramWrite_ne _ _ (word_ne_succ a)]
  · rw [s.memRead_ramWrite_ne _ _ (word_ne_succ a).symm, s.memRead_ramWrite_eq hm]
  · rw [s.memRead_ramWrite_ne _ _ h1, s.memRead_ramWrite_ne _ _ h2]

/-- A push stores its word at SP - 2. -/
theorem storedWord_push {s : State} (hm : Memory.wf s.mem) (lo hi : Byte) :
    StoredWord s (s.ramWrite (s.ramWrite s.mem (s.sp - 1) hi) (s.sp - 2) lo) (s.sp - 2) lo hi := by
  rw [show s.sp - 1 = s.sp - 2 + 1 by bv_omega]
  exact storedWord_highFirst hm _ _ _

/-- The model's R increment is one count of the statements. -/
theorem refreshed_eq (r : Byte) : refreshed r = refreshCount r 1 := by
  apply BitVec.eq_of_toNat_eq
  rw [refreshed_toNat]
  have := r.isLt
  simp only [refreshCount, BitVec.toNat_ofNat]
  omega

/-- Counts of R add up. -/
theorem refreshCount_add (r : Byte) (m n : Nat) : refreshCount (refreshCount r m) n = refreshCount r (m + n) := by
  apply BitVec.eq_of_toNat_eq
  have := r.isLt
  simp only [refreshCount, BitVec.toNat_ofNat]
  omega

end Sys2Proof.Machine
end

