-- ==== Sys2Proof/Laws/Launch.lean ====
section
/-! SUPPORT. Runs under a host (70_reset R1460, R1461): a run has one end at most, a hang has none, and a placed launch meets its premise. -/

namespace Sys2Proof.Machine

/-- The end of a run is unique. -/
theorem Launch.endsAt_unique {l : Launch} {m n : Nat} {p q : Point} (hm : l.endsAt m p) (hn : l.endsAt n q) : m = n ∧ p = q := by
  obtain ⟨hp, he, hf⟩ := hm
  obtain ⟨hp', he', hf'⟩ := hn
  obtain h | rfl | h := Nat.lt_trichotomy m n
  · exact absurd he (hf' m h p hp)
  · exact ⟨rfl, by rw [hp] at hp'; cases hp'; rfl⟩
  · exact absurd he' (hf n h q hp')

/-- A hang never ends. -/
theorem Launch.hangs.not_endsAt {l : Launch} (h : l.hangs) (n : Nat) (p : Point) : ¬l.endsAt n p := by
  rintro ⟨hp, he, -⟩
  obtain ⟨q, hq, hne⟩ := h n
  rw [hp] at hq
  cases hq
  exact hne he

/-- A hang is stopped by no verdict. -/
theorem Launch.hangs.safe {l : Launch} (h : l.hangs) : l.safe := fun n => (h n).imp fun _ hp => hp.1


/-- `withRam` makes its range plain RAM. -/
theorem State.withRam_ramOn (s : State) (lo hi : Word) (cells : List (Word × Byte)) : (s.withRam lo hi cells).ramOn lo hi := by
  intro a h1 h2
  simp [State.isRam, State.withRam, h1, h2]

end Sys2Proof.Machine
end

