-- ==== Sys2Proof/Laws/PerInstr.lean ====
section
/-! SUPPORT. The family `Length` of per-instruction statements: an instruction is one to four bytes long (30_encoding R300), without
the prefixes that were overridden or ignored before it (R322, R325). -/

namespace Sys2Proof.Laws.Length

/-- R300: the bytes of an instruction are 1 to 4. -/
def Statement (i : Instr) : Prop := 1 ≤ (encode i).length ∧ (encode i).length ≤ 4

/-- The statement by evaluation. -/
theorem Statement.of_check {i : Instr} (h : (Nat.ble 1 (encode i).length && Nat.ble (encode i).length 4) = true) : Statement i := by
  rw [Bool.and_eq_true] at h
  exact ⟨Nat.le_of_ble_eq_true h.1, Nat.le_of_ble_eq_true h.2⟩

theorem nop : Statement (.nop) := .of_check rfl
theorem ldDdNn (p : Pair) (nn : Word) : Statement (.ldDdNn p nn) := .of_check rfl
theorem ldBcA : Statement (.ldBcA) := .of_check rfl
theorem ldDeA : Statement (.ldDeA) := .of_check rfl
theorem ldNnHl (nn : Word) : Statement (.ldNnHl nn) := .of_check rfl
theorem ldNnA (nn : Word) : Statement (.ldNnA nn) := .of_check rfl
theorem incSs (p : Pair) : Statement (.incSs p) := .of_check rfl
theorem decSs (p : Pair) : Statement (.decSs p) := .of_check rfl
theorem incR (r : Reg8) : Statement (.incR r) := .of_check rfl
theorem incHl : Statement (.incHl) := .of_check rfl
theorem decR (r : Reg8) : Statement (.decR r) := .of_check rfl
theorem decHl : Statement (.decHl) := .of_check rfl
theorem ldRN (r : Reg8) (n : Byte) : Statement (.ldRN r n) := .of_check rfl
theorem ldHlN (n : Byte) : Statement (.ldHlN n) := .of_check rfl
theorem rlca : Statement (.rlca) := .of_check rfl
theorem rrca : Statement (.rrca) := .of_check rfl
theorem rla : Statement (.rla) := .of_check rfl
theorem rra : Statement (.rra) := .of_check rfl
theorem daa : Statement (.daa) := .of_check rfl
theorem cpl : Statement (.cpl) := .of_check rfl
theorem scf : Statement (.scf) := .of_check rfl
theorem ccf : Statement (.ccf) := .of_check rfl
theorem exAfAf : Statement (.exAfAf) := .of_check rfl
theorem ldABc : Statement (.ldABc) := .of_check rfl
theorem ldADe : Statement (.ldADe) := .of_check rfl
theorem halt : Statement (.halt) := .of_check rfl
theorem ret : Statement (.ret) := .of_check rfl
theorem exx : Statement (.exx) := .of_check rfl
theorem exSpHl : Statement (.exSpHl) := .of_check rfl
theorem jpHl : Statement (.jpHl) := .of_check rfl
theorem exDeHl : Statement (.exDeHl) := .of_check rfl
theorem di : Statement (.di) := .of_check rfl
theorem ldSpHl : Statement (.ldSpHl) := .of_check rfl
theorem ei : Statement (.ei) := .of_check rfl
theorem addHlSs (p : Pair) : Statement (.addHlSs p) := .of_check rfl
theorem ldHlInd (nn : Word) : Statement (.ldHlInd nn) := .of_check rfl
theorem ldANn (nn : Word) : Statement (.ldANn nn) := .of_check rfl
theorem djnz (e : Byte) : Statement (.djnz e) := .of_check rfl
theorem jr (e : Byte) : Statement (.jr e) := .of_check rfl
theorem jrCc (cc : CondJr) (e : Byte) : Statement (.jrCc cc e) := .of_check rfl
theorem ldRR (dst : Reg8) (src : Reg8) : Statement (.ldRR dst src) := .of_check rfl
theorem ldRHl (r : Reg8) : Statement (.ldRHl r) := .of_check rfl
theorem ldHlR (r : Reg8) : Statement (.ldHlR r) := .of_check rfl
theorem addAS (m : RegM) : Statement (.addAS m) := .of_check rfl
theorem addAN (n : Byte) : Statement (.addAN n) := .of_check rfl
theorem adcAS (m : RegM) : Statement (.adcAS m) := .of_check rfl
theorem adcAN (n : Byte) : Statement (.adcAN n) := .of_check rfl
theorem subS (m : RegM) : Statement (.subS m) := .of_check rfl
theorem subN (n : Byte) : Statement (.subN n) := .of_check rfl
theorem sbcAS (m : RegM) : Statement (.sbcAS m) := .of_check rfl
theorem sbcAN (n : Byte) : Statement (.sbcAN n) := .of_check rfl
theorem andS (m : RegM) : Statement (.andS m) := .of_check rfl
theorem andN (n : Byte) : Statement (.andN n) := .of_check rfl
theorem xorS (m : RegM) : Statement (.xorS m) := .of_check rfl
theorem xorN (n : Byte) : Statement (.xorN n) := .of_check rfl
theorem orS (m : RegM) : Statement (.orS m) := .of_check rfl
theorem orN (n : Byte) : Statement (.orN n) := .of_check rfl
theorem cpS (m : RegM) : Statement (.cpS m) := .of_check rfl
theorem cpN (n : Byte) : Statement (.cpN n) := .of_check rfl
theorem retCc (cc : Cond) : Statement (.retCc cc) := .of_check rfl
theorem popQq (q : PairQ) : Statement (.popQq q) := .of_check rfl
theorem jpCcNn (cc : Cond) (nn : Word) : Statement (.jpCcNn cc nn) := .of_check rfl
theorem jpNn (nn : Word) : Statement (.jpNn nn) := .of_check rfl
theorem callCcNn (cc : Cond) (nn : Word) : Statement (.callCcNn cc nn) := .of_check rfl
theorem pushQq (q : PairQ) : Statement (.pushQq q) := .of_check rfl
theorem rst (y : BitVec 3) : Statement (.rst y) := .of_check rfl
theorem callNn (nn : Word) : Statement (.callNn nn) := .of_check rfl
theorem outNA (n : Byte) : Statement (.outNA n) := .of_check rfl
theorem inAN (n : Byte) : Statement (.inAN n) := .of_check rfl
theorem prefixCB : Statement (.prefixCB) := .of_check rfl
theorem prefixED : Statement (.prefixED) := .of_check rfl
theorem prefixIdx (x : Idx) : Statement (.prefixIdx x) := .of_check rfl
theorem rlcM (m : RegM) : Statement (.rlcM m) := .of_check rfl
theorem rrcM (m : RegM) : Statement (.rrcM m) := .of_check rfl
theorem rlM (m : RegM) : Statement (.rlM m) := .of_check rfl
theorem rrM (m : RegM) : Statement (.rrM m) := .of_check rfl
theorem slaM (m : RegM) : Statement (.slaM m) := .of_check rfl
theorem sraM (m : RegM) : Statement (.sraM m) := .of_check rfl
theorem sllM (m : RegM) : Statement (.sllM m) := .of_check rfl
theorem srlM (m : RegM) : Statement (.srlM m) := .of_check rfl
theorem bitBR (b : BitVec 3) (r : Reg8) : Statement (.bitBR b r) := .of_check rfl
theorem bitBHl (b : BitVec 3) : Statement (.bitBHl b) := .of_check rfl
theorem resBR (b : BitVec 3) (r : Reg8) : Statement (.resBR b r) := .of_check rfl
theorem resBHl (b : BitVec 3) : Statement (.resBHl b) := .of_check rfl
theorem setBR (b : BitVec 3) (r : Reg8) : Statement (.setBR b r) := .of_check rfl
theorem setBHl (b : BitVec 3) : Statement (.setBHl b) := .of_check rfl
theorem inRC (r : Reg8) : Statement (.inRC r) := .of_check rfl
theorem inFC : Statement (.inFC) := .of_check rfl
theorem outCR (r : Reg8) : Statement (.outCR r) := .of_check rfl
theorem outC0 : Statement (.outC0) := .of_check rfl
theorem sbcHlSs (p : Pair) : Statement (.sbcHlSs p) := .of_check rfl
theorem adcHlSs (p : Pair) : Statement (.adcHlSs p) := .of_check rfl
theorem ldNnDd (p : Pair) (nn : Word) : Statement (.ldNnDd p nn) := .of_check rfl
theorem ldDdInd (p : Pair) (nn : Word) : Statement (.ldDdInd p nn) := .of_check rfl
theorem neg : Statement (.neg) := .of_check rfl
theorem retn : Statement (.retn) := .of_check rfl
theorem reti : Statement (.reti) := .of_check rfl
theorem imM (m : IntMode) : Statement (.imM m) := .of_check rfl
theorem ldIA : Statement (.ldIA) := .of_check rfl
theorem ldRA : Statement (.ldRA) := .of_check rfl
theorem ldAI : Statement (.ldAI) := .of_check rfl
theorem ldAR : Statement (.ldAR) := .of_check rfl
theorem rrd : Statement (.rrd) := .of_check rfl
theorem rld : Statement (.rld) := .of_check rfl
theorem ldi : Statement (.ldi) := .of_check rfl
theorem cpi : Statement (.cpi) := .of_check rfl
theorem ini : Statement (.ini) := .of_check rfl
theorem outi : Statement (.outi) := .of_check rfl
theorem ldd : Statement (.ldd) := .of_check rfl
theorem cpd : Statement (.cpd) := .of_check rfl
theorem ind : Statement (.ind) := .of_check rfl
theorem outd : Statement (.outd) := .of_check rfl
theorem ldir : Statement (.ldir) := .of_check rfl
theorem cpir : Statement (.cpir) := .of_check rfl
theorem inir : Statement (.inir) := .of_check rfl
theorem otir : Statement (.otir) := .of_check rfl
theorem lddr : Statement (.lddr) := .of_check rfl
theorem cpdr : Statement (.cpdr) := .of_check rfl
theorem indr : Statement (.indr) := .of_check rfl
theorem otdr : Statement (.otdr) := .of_check rfl
theorem edUndefined (op : Byte) : Statement (.edUndefined op) := .of_check rfl
theorem addIxyPp (x : Idx) (p : PairP) : Statement (.addIxyPp x p) := .of_check rfl
theorem ldIxyNn (x : Idx) (nn : Word) : Statement (.ldIxyNn x nn) := .of_check rfl
theorem ldNnIxy (x : Idx) (nn : Word) : Statement (.ldNnIxy x nn) := .of_check rfl
theorem incIxy (x : Idx) : Statement (.incIxy x) := .of_check rfl
theorem ldIxyInd (x : Idx) (nn : Word) : Statement (.ldIxyInd x nn) := .of_check rfl
theorem decIxy (x : Idx) : Statement (.decIxy x) := .of_check rfl
theorem incXh (x : Idx) (k : Half) : Statement (.incXh x k) := .of_check rfl
theorem decXh (x : Idx) (k : Half) : Statement (.decXh x k) := .of_check rfl
theorem ldXhN (x : Idx) (k : Half) (n : Byte) : Statement (.ldXhN x k n) := .of_check rfl
theorem incXd (x : Idx) (d : Byte) : Statement (.incXd x d) := .of_check rfl
theorem decXd (x : Idx) (d : Byte) : Statement (.decXd x d) := .of_check rfl
theorem ldXdN (x : Idx) (d : Byte) (n : Byte) : Statement (.ldXdN x d n) := .of_check rfl
theorem ldRXd (x : Idx) (r : Reg8) (d : Byte) : Statement (.ldRXd x r d) := .of_check rfl
theorem ldXdR (x : Idx) (d : Byte) (r : Reg8) : Statement (.ldXdR x d r) := .of_check rfl
theorem ldXh (x : Idx) (dst : RegX) (src : RegX) : Statement (.ldXh x dst src) := .of_check rfl
theorem addAXh (x : Idx) (k : Half) : Statement (.addAXh x k) := .of_check rfl
theorem addAXd (x : Idx) (d : Byte) : Statement (.addAXd x d) := .of_check rfl
theorem adcAXh (x : Idx) (k : Half) : Statement (.adcAXh x k) := .of_check rfl
theorem adcAXd (x : Idx) (d : Byte) : Statement (.adcAXd x d) := .of_check rfl
theorem subXh (x : Idx) (k : Half) : Statement (.subXh x k) := .of_check rfl
theorem subXd (x : Idx) (d : Byte) : Statement (.subXd x d) := .of_check rfl
theorem sbcAXh (x : Idx) (k : Half) : Statement (.sbcAXh x k) := .of_check rfl
theorem sbcAXd (x : Idx) (d : Byte) : Statement (.sbcAXd x d) := .of_check rfl
theorem andXh (x : Idx) (k : Half) : Statement (.andXh x k) := .of_check rfl
theorem andXd (x : Idx) (d : Byte) : Statement (.andXd x d) := .of_check rfl
theorem xorXh (x : Idx) (k : Half) : Statement (.xorXh x k) := .of_check rfl
theorem xorXd (x : Idx) (d : Byte) : Statement (.xorXd x d) := .of_check rfl
theorem orXh (x : Idx) (k : Half) : Statement (.orXh x k) := .of_check rfl
theorem orXd (x : Idx) (d : Byte) : Statement (.orXd x d) := .of_check rfl
theorem cpXh (x : Idx) (k : Half) : Statement (.cpXh x k) := .of_check rfl
theorem cpXd (x : Idx) (d : Byte) : Statement (.cpXd x d) := .of_check rfl
theorem popIxy (x : Idx) : Statement (.popIxy x) := .of_check rfl
theorem exSpIxy (x : Idx) : Statement (.exSpIxy x) := .of_check rfl
theorem pushIxy (x : Idx) : Statement (.pushIxy x) := .of_check rfl
theorem jpIxy (x : Idx) : Statement (.jpIxy x) := .of_check rfl
theorem ldSpIxy (x : Idx) : Statement (.ldSpIxy x) := .of_check rfl
theorem prefixIdxCB (x : Idx) (d : Byte) : Statement (.prefixIdxCB x d) := .of_check rfl
theorem overriddenByIdx (x : Idx) (x2 : Idx) : Statement (.overriddenByIdx x x2) := .of_check rfl
theorem overriddenByEd (x : Idx) : Statement (.overriddenByEd x) := .of_check rfl
theorem ignoredPrefix (x : Idx) (op : Byte) : Statement (.ignoredPrefix x op) := .of_check rfl
theorem rlcXd (x : Idx) (d : Byte) : Statement (.rlcXd x d) := .of_check rfl
theorem rlcXdR (x : Idx) (d : Byte) (r : Reg8) : Statement (.rlcXdR x d r) := .of_check rfl
theorem rrcXd (x : Idx) (d : Byte) : Statement (.rrcXd x d) := .of_check rfl
theorem rrcXdR (x : Idx) (d : Byte) (r : Reg8) : Statement (.rrcXdR x d r) := .of_check rfl
theorem rlXd (x : Idx) (d : Byte) : Statement (.rlXd x d) := .of_check rfl
theorem rlXdR (x : Idx) (d : Byte) (r : Reg8) : Statement (.rlXdR x d r) := .of_check rfl
theorem rrXd (x : Idx) (d : Byte) : Statement (.rrXd x d) := .of_check rfl
theorem rrXdR (x : Idx) (d : Byte) (r : Reg8) : Statement (.rrXdR x d r) := .of_check rfl
theorem slaXd (x : Idx) (d : Byte) : Statement (.slaXd x d) := .of_check rfl
theorem slaXdR (x : Idx) (d : Byte) (r : Reg8) : Statement (.slaXdR x d r) := .of_check rfl
theorem sraXd (x : Idx) (d : Byte) : Statement (.sraXd x d) := .of_check rfl
theorem sraXdR (x : Idx) (d : Byte) (r : Reg8) : Statement (.sraXdR x d r) := .of_check rfl
theorem sllXd (x : Idx) (d : Byte) : Statement (.sllXd x d) := .of_check rfl
theorem sllXdR (x : Idx) (d : Byte) (r : Reg8) : Statement (.sllXdR x d r) := .of_check rfl
theorem srlXd (x : Idx) (d : Byte) : Statement (.srlXd x d) := .of_check rfl
theorem srlXdR (x : Idx) (d : Byte) (r : Reg8) : Statement (.srlXdR x d r) := .of_check rfl
theorem bitBXd (x : Idx) (b : BitVec 3) (d : Byte) : Statement (.bitBXd x b d) := .of_check rfl
theorem resBXd (x : Idx) (b : BitVec 3) (d : Byte) : Statement (.resBXd x b d) := .of_check rfl
theorem resBXdR (x : Idx) (b : BitVec 3) (d : Byte) (r : Reg8) : Statement (.resBXdR x b d r) := .of_check rfl
theorem setBXd (x : Idx) (b : BitVec 3) (d : Byte) : Statement (.setBXd x b d) := .of_check rfl
theorem setBXdR (x : Idx) (b : BitVec 3) (d : Byte) (r : Reg8) : Statement (.setBXdR x b d r) := .of_check rfl

end Sys2Proof.Laws.Length
end

