-- ==== Sys2Proof/Laws/Steps.lean ====
section
/-! SUPPORT. What a step can do (60_exceptions R1310, 30_encoding R321): one inversion lemma for the step, one for the loop over fetch
units, and the acceptances as records. -/

namespace Sys2Proof.Machine

/-- The shared part of an acceptance, as one record (60_exceptions R1320). -/
theorem State.acceptPush_eq (s : State) (k : AckKind) :
    s.acceptPush k = { s with
      sp := s.sp - 2, r := refreshed s.r, iff1 := false, iff2 := s.acceptedIff2 k, halted := false
      nmiPending := if k = .nmi then false else s.nmiPending
      mem := s.ramWrite (s.ramWrite s.mem (s.sp - 1) (hiByte s.pc)) (s.sp - 2) (loByte s.pc)
      events := s.events ++ [.intAck k, .write (s.sp - 1) (hiByte s.pc), .write (s.sp - 2) (loByte s.pc)] } := by
  unfold State.acceptPush
  rw [State.push_eq]
  cases k <;> simp [State.acceptBegin, State.refresh, State.ramWrite, State.isRam]

/-- Under DRAW nothing is marked. -/
theorem State.markWritten_of_draw {s : State} (h : s.params.resetRegs = .draw) (i : Instr) : s.markWritten i = s := by
  simp [State.markWritten, h]

/-- The marks are all that `markWritten` changes. -/
theorem State.markWritten_eq (s : State) (i : Instr) : s.markWritten i = { s with unwritten := (s.markWritten i).unwritten } := by
  unfold State.markWritten
  cases s.params.resetRegs <;> rfl

/-- An instruction that goes on: it read nothing unwritten, `exec` went on, and what it wrote is unmarked (10_state R130). -/
theorem runInstr_next {i : Instr} {s u : State} (h : runInstr i s = .next u) :
    s.unwrittenRead (i.reads s) = none ∧ ∃ t, exec i s = .next t ∧ u = t.markWritten i := by
  unfold runInstr checkReads at h
  split at h
  · rename_i hn
    split at h
    · rename_i t ht
      exact ⟨hn, t, ht, by cases h; rfl⟩
    · cases h
    · cases h
  · cases h

/-- An instruction whose reads are all written, and that `exec` lets go on. -/
theorem runInstr_of_exec {i : Instr} {s t : State} (hr : s.unwrittenRead (i.reads s) = none) (h : exec i s = .next t) :
    runInstr i s = .next (t.markWritten i) := by
  simp [runInstr, checkReads, hr, h]

/-- An instruction that reads an unwritten register faults (10_state R130). -/
theorem runInstr_of_unwritten {i : Instr} {s : State} {n : RegName} (hr : s.unwrittenRead (i.reads s) = some n) :
    runInstr i s = .fault (.readBeforeWrite n) := by
  simp [runInstr, checkReads, hr]

/-- A step is one of five moves (60_exceptions R1310, R1312; 30_encoding R322). -/
theorem step_cases (s : State) :
    (∃ c, s.fetching = some c ∧ step s = runUnits Config.maxUnits s) ∨
      (s.fetching = none ∧ s.nmiPending = true ∧ step s = acceptNmi s.beginStep) ∨
      (s.fetching = none ∧ s.nmiPending = false ∧ s.intAccepted = true ∧ step s = acceptInt s.beginStep) ∨
      (s.fetching = none ∧ s.nmiPending = false ∧ s.intAccepted = false ∧ s.halted = true ∧ step s = haltedStep s.beginStep) ∨
      (s.fetching = none ∧ s.nmiPending = false ∧ s.intAccepted = false ∧ s.halted = false ∧ step s = executeStep s.beginStep) := by
  unfold step coreStep
  cases hf : s.fetching with
  | some c => exact .inl ⟨c, rfl, rfl⟩
  | none => cases hn : s.nmiPending <;> cases hi : s.intAccepted <;> cases hh : s.halted <;> simp

theorem runUnits_none (n : Nat) {s : State} (h : s.fetching = none) : runUnits n s = .next s := by
  cases n with
  | zero => rfl
  | succ n => simp [runUnits, h]

/-- One fetch unit, then the rest. -/
theorem runUnits_succ (n : Nat) {s t : State} {c : Context} (h : s.fetching = some c)
    (ht : runInstr (s.unitAt c).instr (s.fetchUnit c) = .next t) : runUnits (n + 1) s = runUnits n t := by
  simp [runUnits, h, ht]

/-- What every fetch unit keeps, the loop keeps: a property of states that the fetch of a unit and its instruction both preserve. -/
theorem runUnits_induction {P : State → Prop}
    (hP : ∀ (s t : State) (c : Context), P s → s.fetching = some c → runInstr (s.unitAt c).instr (s.fetchUnit c) = .next t → P t) :
    ∀ (n : Nat) (s t : State), P s → runUnits n s = .next t → P t
  | 0, s, t, hs, h => by
    cases h
    exact hs
  | n + 1, s, t, hs, h => by
    unfold runUnits at h
    split at h
    · cases h
      exact hs
    · rename_i c hc
      split at h
      · rename_i u hu
        exact runUnits_induction hP n u t (hP s u c hs hc hu) h
      · cases h
      · cases h

/-- n operand bytes fetched: PC past them; only PC, the events and the free values used change. -/
theorem State.fetchBytes_frame (n : Nat) (s : State) :
    ∃ d ev, s.fetchBytes n = { s with pc := s.pc + BitVec.ofNat 16 n, draws := d, events := s.events ++ ev } ∧ ev.length = n := by
  induction n generalizing s with
  | zero => exact ⟨s.draws, [], by simp [State.fetchBytes], rfl⟩
  | succ n ih =>
    obtain ⟨d, ev, h, hl⟩ := ih s.fetchByte
    refine ⟨d, .fetch s.pc (s.memVal s.pc) false :: ev, ?_, by simp [hl]⟩
    rw [State.fetchBytes, h, State.fetchByte_eq]
    have hp : s.pc + 1#16 + BitVec.ofNat 16 n = s.pc + BitVec.ofNat 16 (n + 1) := by
      rw [BitVec.ofNat_add, BitVec.add_assoc, BitVec.add_comm (BitVec.ofNat 16 1)]
    simp [hp]

end Sys2Proof.Machine
end

