-- ==== Sys2Proof/Tests/Slice0.lean ====
section
/-! SUPPORT. Tests: the WellFormed smoke, decoding of every constructor from bytes written out from the spec's maps, one step on the
spec's own test vectors (95_test_vectors: `test_v<n>_…` is vector V<n>, its launch state and its end), and for every obligation that
has hypotheses a witness that meets them (`test_hyp_<obligation>`). -/

open Sys2Proof Sys2Proof.Machine Sys2Proof.Claims

namespace Sys2Proof.Tests

/-! ## WellFormed -/

/-- R418 names a half register. -/
theorem test_wf_half_needed : (Instr.ldXh .ix .b .c).wf = false ∧ (Instr.ldXh .ix .b .xl).wf = true := by decide

/-- R1106 is for the unmapped ED opcodes alone: 0x44 is NEG. -/
theorem test_wf_ed_unmapped : (Instr.edUndefined 0x44).wf = false ∧ (Instr.edUndefined 0x00).wf = true := by decide

/-- R1107 is for the opcodes the prefix does not affect: 0x21 is LD IX,nn, and 0xED is a prefix. -/
theorem test_wf_ignored_prefix : (Instr.ignoredPrefix .ix 0x21).wf = false ∧ (Instr.ignoredPrefix .iy 0xED).wf = false ∧
    (Instr.ignoredPrefix .ix 0x00).wf = true := by decide

/-! ## Decoding -/

/-- The bytes decode to this instruction and nothing is left over. -/
def decodesTo (p : List Byte × Instr) : Bool :=
  match decode p.1 with
  | .ok (i, []) => i == p.2
  | _ => false

/-- 40_load_exchange R400-R444. -/
theorem test_decode_load : [([0x78], Instr.ldRR .a .b), ([0x3E, 0x80], .ldRN .a 0x80), ([0x5E], .ldRHl .e), ([0x71], .ldHlR .c),
    ([0x36, 0xA5], .ldHlN 0xA5), ([0x0A], .ldABc), ([0x1A], .ldADe), ([0x3A, 0x34, 0x12], .ldANn 0x1234), ([0x02], .ldBcA),
    ([0x12], .ldDeA), ([0x32, 0x34, 0x12], .ldNnA 0x1234), ([0xED, 0x57], .ldAI), ([0xED, 0x5F], .ldAR), ([0xED, 0x47], .ldIA),
    ([0xED, 0x4F], .ldRA), ([0x11, 0xCD, 0xAB], .ldDdNn .de 0xABCD), ([0x2A, 0x00, 0x80], .ldHlInd 0x8000),
    ([0xED, 0x7B, 0x00, 0x80], .ldDdInd .sp 0x8000), ([0x22, 0x00, 0x80], .ldNnHl 0x8000), ([0xED, 0x43, 0x01, 0x80], .ldNnDd .bc 0x8001),
    ([0xF9], .ldSpHl), ([0xF5], .pushQq .af), ([0xC1], .popQq .bc), ([0xEB], .exDeHl), ([0x08], .exAfAf), ([0xD9], .exx),
    ([0xE3], .exSpHl)].all decodesTo = true := by decide

theorem test_decode_load_index : [([0xDD, 0x7E, 0xFE], Instr.ldRXd .ix .a 0xFE), ([0xFD, 0x74, 0x05], .ldXdR .iy 0x05 .h),
    ([0xDD, 0x36, 0x02, 0x5C], .ldXdN .ix 0x02 0x5C), ([0xDD, 0x65], .ldXh .ix .xh .xl), ([0xFD, 0x6F], .ldXh .iy .xl .a),
    ([0xFD, 0x2E, 0x99], .ldXhN .iy .low 0x99), ([0xDD, 0x21, 0x34, 0x12], .ldIxyNn .ix 0x1234),
    ([0xFD, 0x2A, 0x34, 0x12], .ldIxyInd .iy 0x1234), ([0xDD, 0x22, 0x34, 0x12], .ldNnIxy .ix 0x1234), ([0xFD, 0xF9], .ldSpIxy .iy),
    ([0xDD, 0xE5], .pushIxy .ix), ([0xFD, 0xE1], .popIxy .iy), ([0xDD, 0xE3], .exSpIxy .ix)].all decodesTo = true := by decide

/-- 41_alu8 R507, R510-R534. -/
theorem test_decode_alu8 : [([0x80], Instr.addAS (.reg .b)), ([0xC6, 0x01], .addAN 0x01), ([0x8E], .adcAS .hl), ([0xCE, 0x02], .adcAN 0x02),
    ([0x92], .subS (.reg .d)), ([0xD6, 0x03], .subN 0x03), ([0x9F], .sbcAS (.reg .a)), ([0xDE, 0x04], .sbcAN 0x04), ([0xA6], .andS .hl),
    ([0xE6, 0x05], .andN 0x05), ([0xAD], .xorS (.reg .l)), ([0xEE, 0x06], .xorN 0x06), ([0xB4], .orS (.reg .h)), ([0xF6, 0x07], .orN 0x07),
    ([0xB9], .cpS (.reg .c)), ([0xFE, 0x08], .cpN 0x08), ([0x1C], .incR .e), ([0x34], .incHl), ([0x3D], .decR .a), ([0x35], .decHl),
    ([0x27], .daa), ([0x2F], .cpl), ([0xED, 0x44], .neg), ([0xED, 0x7C], .neg), ([0x3F], .ccf), ([0x37], .scf)].all decodesTo = true := by
  decide

theorem test_decode_alu8_index : [([0xDD, 0x84], Instr.addAXh .ix .high), ([0xFD, 0x86, 0x01], .addAXd .iy 0x01), ([0xDD, 0x8D], .adcAXh .ix .low),
    ([0xDD, 0x8E, 0x02], .adcAXd .ix 0x02), ([0xFD, 0x94], .subXh .iy .high), ([0xDD, 0x96, 0x03], .subXd .ix 0x03),
    ([0xDD, 0x9D], .sbcAXh .ix .low), ([0xFD, 0x9E, 0x04], .sbcAXd .iy 0x04), ([0xDD, 0xA4], .andXh .ix .high),
    ([0xDD, 0xA6, 0x05], .andXd .ix 0x05), ([0xFD, 0xAD], .xorXh .iy .low), ([0xDD, 0xAE, 0x06], .xorXd .ix 0x06),
    ([0xDD, 0xB4], .orXh .ix .high), ([0xFD, 0xB6, 0x07], .orXd .iy 0x07), ([0xDD, 0xBD], .cpXh .ix .low),
    ([0xDD, 0xBE, 0x80], .cpXd .ix 0x80), ([0xDD, 0x24], .incXh .ix .high), ([0xFD, 0x2D], .decXh .iy .low),
    ([0xDD, 0x34, 0x7F], .incXd .ix 0x7F), ([0xFD, 0x35, 0x01], .decXd .iy 0x01)].all decodesTo = true := by decide

/-- 42_alu16 R601-R608. -/
theorem test_decode_alu16 : [([0x29], Instr.addHlSs .hl), ([0xED, 0x7A], .adcHlSs .sp), ([0xED, 0x52], .sbcHlSs .de), ([0xDD, 0x29], .addIxyPp .ix .ixy),
    ([0xFD, 0x39], .addIxyPp .iy .sp), ([0x03], .incSs .bc), ([0x3B], .decSs .sp), ([0xDD, 0x23], .incIxy .ix),
    ([0xFD, 0x2B], .decIxy .iy)].all decodesTo = true := by decide

/-- 43_block R704-R727. -/
theorem test_decode_block : [([0xED, 0xA0], Instr.ldi), ([0xED, 0xA8], .ldd), ([0xED, 0xB0], .ldir), ([0xED, 0xB8], .lddr), ([0xED, 0xA1], .cpi),
    ([0xED, 0xA9], .cpd), ([0xED, 0xB1], .cpir), ([0xED, 0xB9], .cpdr), ([0xED, 0xA2], .ini), ([0xED, 0xAA], .ind), ([0xED, 0xB2], .inir),
    ([0xED, 0xBA], .indr), ([0xED, 0xA3], .outi), ([0xED, 0xAB], .outd), ([0xED, 0xB3], .otir),
    ([0xED, 0xBB], .otdr)].all decodesTo = true := by decide

/-- 44_rotate_shift R800-R821. -/
theorem test_decode_rotate : [([0x07], Instr.rlca), ([0x17], .rla), ([0x0F], .rrca), ([0x1F], .rra), ([0xCB, 0x00], .rlcM (.reg .b)),
    ([0xCB, 0x0E], .rrcM .hl), ([0xCB, 0x17], .rlM (.reg .a)), ([0xCB, 0x19], .rrM (.reg .c)), ([0xCB, 0x22], .slaM (.reg .d)),
    ([0xCB, 0x2B], .sraM (.reg .e)), ([0xCB, 0x34], .sllM (.reg .h)), ([0xCB, 0x3D], .srlM (.reg .l)), ([0xED, 0x6F], .rld),
    ([0xED, 0x67], .rrd)].all decodesTo = true := by decide

theorem test_decode_rotate_index : [([0xDD, 0xCB, 0x01, 0x06], Instr.rlcXd .ix 0x01), ([0xFD, 0xCB, 0x02, 0x0E], .rrcXd .iy 0x02),
    ([0xDD, 0xCB, 0x03, 0x16], .rlXd .ix 0x03), ([0xDD, 0xCB, 0x04, 0x1E], .rrXd .ix 0x04), ([0xDD, 0xCB, 0x05, 0x26], .slaXd .ix 0x05),
    ([0xDD, 0xCB, 0x06, 0x2E], .sraXd .ix 0x06), ([0xDD, 0xCB, 0x07, 0x36], .sllXd .ix 0x07), ([0xDD, 0xCB, 0x08, 0x3E], .srlXd .ix 0x08),
    ([0xDD, 0xCB, 0x01, 0x00], .rlcXdR .ix 0x01 .b), ([0xDD, 0xCB, 0x02, 0x09], .rrcXdR .ix 0x02 .c),
    ([0xFD, 0xCB, 0x03, 0x12], .rlXdR .iy 0x03 .d), ([0xDD, 0xCB, 0x04, 0x1B], .rrXdR .ix 0x04 .e),
    ([0xDD, 0xCB, 0x05, 0x24], .slaXdR .ix 0x05 .h), ([0xDD, 0xCB, 0x06, 0x2D], .sraXdR .ix 0x06 .l),
    ([0xDD, 0xCB, 0x07, 0x37], .sllXdR .ix 0x07 .a), ([0xDD, 0xCB, 0x08, 0x38], .srlXdR .ix 0x08 .b)].all decodesTo = true := by decide

/-- 45_bit R901-R911. -/
theorem test_decode_bit : [([0xCB, 0x47], Instr.bitBR 0 .a), ([0xCB, 0x7E], .bitBHl 7), ([0xCB, 0x88], .resBR 1 .b), ([0xCB, 0x96], .resBHl 2),
    ([0xCB, 0xD9], .setBR 3 .c), ([0xCB, 0xE6], .setBHl 4), ([0xFD, 0xCB, 0xFF, 0x7E], .bitBXd .iy 7 0xFF),
    ([0xDD, 0xCB, 0x02, 0x41], .bitBXd .ix 0 0x02), ([0xDD, 0xCB, 0x03, 0xAE], .resBXd .ix 5 0x03),
    ([0xDD, 0xCB, 0x04, 0xB2], .resBXdR .ix 6 0x04 .d), ([0xDD, 0xCB, 0x05, 0xC6], .setBXd .ix 0 0x05),
    ([0xFD, 0xCB, 0x06, 0xFF], .setBXdR .iy 7 0x06 .a)].all decodesTo = true := by decide

/-- 46_jump_call_return R1000-R1031. -/
theorem test_decode_jump : [([0xC3, 0x34, 0x12], Instr.jpNn 0x1234), ([0xE2, 0x34, 0x12], .jpCcNn .po 0x1234), ([0x18, 0xFE], .jr 0xFE),
    ([0x38, 0x05], .jrCc .c 0x05), ([0x10, 0xFD], .djnz 0xFD), ([0xE9], .jpHl), ([0xFD, 0xE9], .jpIxy .iy), ([0xCD, 0x34, 0x12], .callNn 0x1234),
    ([0xFC, 0x34, 0x12], .callCcNn .m 0x1234), ([0xC9], .ret), ([0xC8], .retCc .z), ([0xEF], .rst 5), ([0xED, 0x4D], .reti),
    ([0xED, 0x45], .retn), ([0xED, 0x5D], .retn)].all decodesTo = true := by decide

/-- 47_cpu_control and 48_io. -/
theorem test_decode_control : [([0x00], Instr.nop), ([0x76], .halt), ([0xF3], .di), ([0xFB], .ei), ([0xED, 0x46], .imM .im0), ([0xED, 0x56], .imM .im1),
    ([0xED, 0x7E], .imM .im2), ([0xED, 0x6E], .imM .im0), ([0xED, 0xFF], .edUndefined 0xFF), ([0xDB, 0xFE], .inAN 0xFE),
    ([0xED, 0x40], .inRC .b), ([0xED, 0x70], .inFC), ([0xD3, 0x10], .outNA 0x10), ([0xED, 0x59], .outCR .e),
    ([0xED, 0x71], .outC0)].all decodesTo = true := by decide

/-- 30_encoding R320-R327: the last of n fetch units. -/
theorem test_decode_prefixes : decodeNth 1 .plain [0xCB] = some .prefixCB ∧ decodeNth 1 .plain [0xED] = some .prefixED ∧
    decodeNth 1 .plain [0xFD] = some (.prefixIdx .iy) ∧ decodeNth 2 .plain [0xDD, 0xCB, 0x7F] = some (.prefixIdxCB .ix 0x7F) ∧
    decodeNth 2 .plain [0xDD, 0xFD] = some (.overriddenByIdx .ix .iy) ∧ decodeNth 2 .plain [0xFD, 0xED] = some (.overriddenByEd .iy) ∧
    decodeNth 2 .plain [0xDD, 0x3C] = some (.ignoredPrefix .ix 0x3C) := by decide

/-- A table word, first byte in its highest bits, and the step that runs it (log 10, log 11). -/
theorem test_table_word : decodeTableWord 16 0xED44 = some .neg ∧ decodeTableWord 24 0xDDCB06 = some (.rlcXd .ix 0) ∧
    decodeTableWord 8 0x76 = some .halt ∧ decodeTableWord 16 0xDDFD = some (.overriddenByIdx .ix .iy) := by decide

/-! ## One step on the spec's vectors -/

/-- A next state of which `p` is true. -/
def answers (r : Result) (p : State → Bool) : Bool :=
  match r with
  | .next t => p t
  | _ => false

def after (s : State) (p : State → Bool) : Bool := answers (step s) p

/-- The reset state with these bytes in memory, all of it plain RAM: the launch of the vectors. -/
def place (cells : List (Word × Byte)) : State := State.reset.withRam 0 0xFFFF cells

/-- A register file from A, F, BC, DE and HL. -/
def gen (a f : Byte) (bc de hl : Word) : RegFile := (((⟨a, f, 0, 0, 0, 0, 0, 0⟩ : RegFile).setBc bc).setDe de).setHl hl

/-- The events the vectors list: neither fetches nor reads. -/
def visible : Event → Bool
  | .fetch _ _ _ => false
  | .read _ _ => false
  | _ => true

def seen (t : State) : List Event := t.events.filter visible

theorem test_v1_ld_a_b : after { place [(0x0000, 0x78)] with regs := gen 0 0 0x5A00 0 0 } (fun t =>
    t.regs == gen 0x5A 0 0x5A00 0 0 && t.pc == 0x0001 && t.r == 0x1 && t.cycles == 4 && seen t == []) = true := by decide

theorem test_v2_ld_a_n : after { place [(0x0000, 0x3E), (0x0001, 0x80)] with regs := gen 0 0xFF 0 0 0 } (fun t =>
    t.regs == gen 0x80 0xFF 0 0 0 && t.pc == 0x0002 && t.r == 0x1 && t.cycles == 7 && seen t == []) = true := by decide

theorem test_v3_ld_a_hl : after { place [(0x0000, 0x7E), (0x4000, 0x99)] with regs := gen 0 0 0 0 0x4000 } (fun t =>
    t.regs == gen 0x99 0 0 0 0x4000 && t.pc == 0x0001 && t.r == 0x1 && t.cycles == 7 && seen t == []) = true := by decide

theorem test_v4_ld_h_ix_1 : after { place [(0x0000, 0xDD), (0x0001, 0x66), (0x0002, 0xFF), (0x4000, 0x77)] with regs := gen 0 0 0 0 0x1100, ix := 0x4001 } (fun t =>
    t.regs == gen 0 0 0 0 0x7700 && t.ix == 0x4001 && t.pc == 0x0003 && t.r == 0x2 && t.cycles == 19 && seen t == []) = true := by decide

theorem test_v5_ld_hl_b : after { place [(0x0000, 0x70)] with regs := gen 0 0 0x1200 0 0x4010 } (fun t =>
    t.regs == gen 0 0 0x1200 0 0x4010 && t.pc == 0x0001 && t.r == 0x1 && t.cycles == 7 && seen t == [.write 0x4010 0x12]) = true := by decide

theorem test_v6_ld_iy_127_a : after { place [(0x0000, 0xFD), (0x0001, 0x77), (0x0002, 0x7F)] with regs := gen 0x34 0 0 0 0, iy := 0x4000 } (fun t =>
    t.regs == gen 0x34 0 0 0 0 && t.iy == 0x4000 && t.pc == 0x0003 && t.r == 0x2 && t.cycles == 19 && seen t == [.write 0x407F 0x34]) = true := by decide

theorem test_v7_ld_hl_n : after { place [(0x0000, 0x36), (0x0001, 0xA5)] with regs := gen 0 0 0 0 0x4000 } (fun t =>
    t.regs == gen 0 0 0 0 0x4000 && t.pc == 0x0002 && t.r == 0x1 && t.cycles == 10 && seen t == [.write 0x4000 0xA5]) = true := by decide

theorem test_v8_ld_ix_2_n : after { place [(0x0000, 0xDD), (0x0001, 0x36), (0x0002, 0x02), (0x0003, 0x5C)] with ix := 0x4000 } (fun t =>
    t.regs == gen 0 0 0 0 0 && t.ix == 0x4000 && t.pc == 0x0004 && t.r == 0x2 && t.cycles == 19 && seen t == [.write 0x4002 0x5C]) = true := by decide

theorem test_v9_ld_a_bc : after { place [(0x0000, 0x0A), (0x4000, 0x3C)] with regs := gen 0 0 0x4000 0 0 } (fun t =>
    t.regs == gen 0x3C 0 0x4000 0 0 && t.pc == 0x0001 && t.r == 0x1 && t.cycles == 7 && seen t == []) = true := by decide

theorem test_v10_ld_a_nn_with_nn : after (place [(0x0000, 0x3A), (0x0001, 0xFF), (0x0002, 0xFF), (0xFFFF, 0x11)]) (fun t =>
    t.regs == gen 0x11 0 0 0 0 && t.pc == 0x0003 && t.r == 0x1 && t.cycles == 13 && seen t == []) = true := by decide

theorem test_v11_ld_nn_a : after { place [(0x0000, 0x32), (0x0001, 0x00), (0x0002, 0x40)] with regs := gen 0xEE 0 0 0 0 } (fun t =>
    t.regs == gen 0xEE 0 0 0 0 && t.pc == 0x0003 && t.r == 0x1 && t.cycles == 13 && seen t == [.write 0x4000 0xEE]) = true := by decide

theorem test_v12_ld_a_i_with_iff2 : after { place [(0x0000, 0xED), (0x0001, 0x57)] with regs := gen 0 0x01 0 0 0, i := 0x80, iff2 := true } (fun t =>
    t.regs == gen 0x80 0x85 0 0 0 && t.pc == 0x0002 && t.r == 0x2 && t.cycles == 9 && seen t == []) = true := by decide

theorem test_v14_ld_a_r : after { place [(0x0000, 0xED), (0x0001, 0x5F)] with iff2 := false, r := 0x85 } (fun t =>
    t.regs == gen 0x87 0x80 0 0 0 && t.pc == 0x0002 && t.r == 0x87 && t.cycles == 9 && seen t == []) = true := by decide

theorem test_v15_ld_r_a : after { place [(0x0000, 0xED), (0x0001, 0x4F)] with regs := gen 0x80 0 0 0 0, r := 0x00 } (fun t =>
    t.regs == gen 0x80 0 0 0 0 && t.pc == 0x0002 && t.r == 0x80 && t.cycles == 9 && seen t == []) = true := by decide

theorem test_v16_ld_ixh_ixl : after { place [(0x0000, 0xDD), (0x0001, 0x65)] with ix := 0x1234 } (fun t =>
    t.regs == gen 0 0 0 0 0 && t.ix == 0x3434 && t.pc == 0x0002 && t.r == 0x2 && t.cycles == 8 && seen t == []) = true := by decide

theorem test_v17_ld_iyl_n : after { place [(0x0000, 0xFD), (0x0001, 0x2E), (0x0002, 0x99)] with iy := 0x1234 } (fun t =>
    t.regs == gen 0 0 0 0 0 && t.iy == 0x1299 && t.pc == 0x0003 && t.r == 0x2 && t.cycles == 11 && seen t == []) = true := by decide

theorem test_v18_ld_sp_nn : after { place [(0x0000, 0x31), (0x0001, 0xFE), (0x0002, 0xFF)] with sp := 0x0000 } (fun t =>
    t.regs == gen 0 0 0 0 0 && t.sp == 0xFFFE && t.pc == 0x0003 && t.r == 0x1 && t.cycles == 10 && seen t == []) = true := by decide

theorem test_v19_ld_hl_0xffff : after (place [(0x0000, 0x2A), (0x0001, 0xFF), (0x0002, 0xFF), (0xFFFF, 0x34)]) (fun t =>
    t.regs == gen 0 0 0 0 0x2A34 && t.pc == 0x0003 && t.r == 0x1 && t.cycles == 16 && seen t == []) = true := by decide

theorem test_v20_ld_sp_nn : after { place [(0x0000, 0xED), (0x0001, 0x7B), (0x0002, 0x00), (0x0003, 0x40), (0x4000, 0x00), (0x4001, 0x80)] with sp := 0x0000 } (fun t =>
    t.regs == gen 0 0 0 0 0 && t.sp == 0x8000 && t.pc == 0x0004 && t.r == 0x2 && t.cycles == 20 && seen t == []) = true := by decide

theorem test_v21_ld_nn_hl : after { place [(0x0000, 0x22), (0x0001, 0x00), (0x0002, 0x40)] with regs := gen 0 0 0 0 0xBEEF } (fun t =>
    t.regs == gen 0 0 0 0 0xBEEF && t.pc == 0x0003 && t.r == 0x1 && t.cycles == 16 && seen t == [.write 0x4000 0xEF, .write 0x4001 0xBE]) = true := by decide

theorem test_v22_ld_nn_ix : after { place [(0x0000, 0xDD), (0x0001, 0x22), (0x0002, 0x00), (0x0003, 0x40)] with ix := 0xCAFE } (fun t =>
    t.regs == gen 0 0 0 0 0 && t.ix == 0xCAFE && t.pc == 0x0004 && t.r == 0x2 && t.cycles == 20 && seen t == [.write 0x4000 0xFE, .write 0x4001 0xCA]) = true := by decide

theorem test_v23_ld_sp_hl : after { place [(0x0000, 0xF9)] with regs := gen 0 0 0 0 0x1234, sp := 0x0000 } (fun t =>
    t.regs == gen 0 0 0 0 0x1234 && t.sp == 0x1234 && t.pc == 0x0001 && t.r == 0x1 && t.cycles == 6 && seen t == []) = true := by decide

theorem test_v24_push_af_with_sp_0 : after { place [(0x0000, 0xF5)] with regs := gen 0x12 0xD7 0 0 0, sp := 0x0000 } (fun t =>
    t.regs == gen 0x12 0xD7 0 0 0 && t.sp == 0xFFFE && t.pc == 0x0001 && t.r == 0x1 && t.cycles == 11 && seen t == [.write 0xFFFF 0x12, .write 0xFFFE 0xD7]) = true := by decide

theorem test_v25_pop_af : after { place [(0x0000, 0xF1), (0xFFFE, 0xFF), (0xFFFF, 0x00)] with sp := 0xFFFE } (fun t =>
    t.regs == gen 0 0xFF 0 0 0 && t.sp == 0x0000 && t.pc == 0x0001 && t.r == 0x1 && t.cycles == 10 && seen t == []) = true := by decide

theorem test_v26_pop_iy : after { place [(0x0000, 0xFD), (0x0001, 0xE1), (0x8000, 0x34), (0x8001, 0x12)] with iy := 0x0000, sp := 0x8000 } (fun t =>
    t.regs == gen 0 0 0 0 0 && t.iy == 0x1234 && t.sp == 0x8002 && t.pc == 0x0002 && t.r == 0x2 && t.cycles == 14 && seen t == []) = true := by decide

theorem test_v27_ex_de_hl : after { place [(0x0000, 0xEB)] with regs := gen 0 0 0 0x1122 0x3344 } (fun t =>
    t.regs == gen 0 0 0 0x3344 0x1122 && t.pc == 0x0001 && t.r == 0x1 && t.cycles == 4 && seen t == []) = true := by decide

theorem test_v29_ex_af_af : after { place [(0x0000, 0x08)] with regs := gen 0x01 0x02 0 0 0, shadow := gen 0x03 0x04 0 0 0 } (fun t =>
    t.regs == gen 0x03 0x04 0 0 0 && t.shadow == gen 0x01 0x02 0 0 0 && t.pc == 0x0001 && t.r == 0x1 && t.cycles == 4 && seen t == []) = true := by decide

theorem test_v30_exx : after { place [(0x0000, 0xD9)] with regs := gen 0 0 0x0102 0x0304 0x0506, shadow := gen 0 0 0x0708 0x090A 0x0B0C } (fun t =>
    t.regs == gen 0 0 0x0708 0x090A 0x0B0C && t.shadow == gen 0 0 0x0102 0x0304 0x0506 && t.pc == 0x0001 && t.r == 0x1 && t.cycles == 4 && seen t == []) = true := by decide

theorem test_v31_ex_sp_hl : after { place [(0x0000, 0xE3), (0x8000, 0x78), (0x8001, 0x56)] with regs := gen 0 0 0 0 0x1234, sp := 0x8000 } (fun t =>
    t.regs == gen 0 0 0 0 0x5678 && t.sp == 0x8000 && t.pc == 0x0001 && t.r == 0x1 && t.cycles == 19 && seen t == [.write 0x8001 0x12, .write 0x8000 0x34]) = true := by decide

theorem test_v32_ex_sp_ix : after { place [(0x0000, 0xDD), (0x0001, 0xE3), (0x8000, 0x78), (0x8001, 0x56)] with ix := 0xAAAA, sp := 0x8000 } (fun t =>
    t.regs == gen 0 0 0 0 0 && t.ix == 0x5678 && t.sp == 0x8000 && t.pc == 0x0002 && t.r == 0x2 && t.cycles == 23 && seen t == [.write 0x8001 0xAA, .write 0x8000 0xAA]) = true := by decide

theorem test_v33_add_a_n : after { place [(0x0000, 0xC6), (0x0001, 0x01)] with regs := gen 0x7F 0 0 0 0 } (fun t =>
    t.regs == gen 0x80 0x94 0 0 0 && t.pc == 0x0002 && t.r == 0x1 && t.cycles == 7 && seen t == []) = true := by decide

theorem test_v34_add_a_b : after { place [(0x0000, 0x80)] with regs := gen 0xFF 0 0x0100 0 0 } (fun t =>
    t.regs == gen 0 0x51 0x0100 0 0 && t.pc == 0x0001 && t.r == 0x1 && t.cycles == 4 && seen t == []) = true := by decide

theorem test_v35_adc_a_n_with_carry : after { place [(0x0000, 0xCE), (0x0001, 0x00)] with regs := gen 0xFF 0x01 0 0 0 } (fun t =>
    t.regs == gen 0 0x51 0 0 0 && t.pc == 0x0002 && t.r == 0x1 && t.cycles == 7 && seen t == []) = true := by decide

theorem test_v36_adc_a_a : after { place [(0x0000, 0x8F)] with regs := gen 0x80 0 0 0 0 } (fun t =>
    t.regs == gen 0 0x45 0 0 0 && t.pc == 0x0001 && t.r == 0x1 && t.cycles == 4 && seen t == []) = true := by decide

theorem test_v37_sub_n : after { place [(0x0000, 0xD6), (0x0001, 0x01)] with regs := gen 0x80 0 0 0 0 } (fun t =>
    t.regs == gen 0x7F 0x3E 0 0 0 && t.pc == 0x0002 && t.r == 0x1 && t.cycles == 7 && seen t == []) = true := by decide

theorem test_v38_sub_a : after { place [(0x0000, 0x97)] with regs := gen 0x5A 0 0 0 0 } (fun t =>
    t.regs == gen 0 0x42 0 0 0 && t.pc == 0x0001 && t.r == 0x1 && t.cycles == 4 && seen t == []) = true := by decide

theorem test_v39_sbc_a_n : after { place [(0x0000, 0xDE), (0x0001, 0x01)] with regs := gen 0 0x01 0 0 0 } (fun t =>
    t.regs == gen 0xFE 0xBB 0 0 0 && t.pc == 0x0002 && t.r == 0x1 && t.cycles == 7 && seen t == []) = true := by decide

theorem test_v40_sbc_a_a_with_carry : after { place [(0x0000, 0x9F)] with regs := gen 0 0x01 0 0 0 } (fun t =>
    t.regs == gen 0xFF 0xBB 0 0 0 && t.pc == 0x0001 && t.r == 0x1 && t.cycles == 4 && seen t == []) = true := by decide

theorem test_v41_and_n : after { place [(0x0000, 0xE6), (0x0001, 0x0F)] with regs := gen 0x3C 0 0 0 0 } (fun t =>
    t.regs == gen 0x0C 0x1C 0 0 0 && t.pc == 0x0002 && t.r == 0x1 && t.cycles == 7 && seen t == []) = true := by decide

theorem test_v42_xor_a : after { place [(0x0000, 0xAF)] with regs := gen 0x5A 0xFF 0 0 0 } (fun t =>
    t.regs == gen 0 0x44 0 0 0 && t.pc == 0x0001 && t.r == 0x1 && t.cycles == 4 && seen t == []) = true := by decide

theorem test_v43_or_b : after { place [(0x0000, 0xB0)] with regs := gen 0x28 0x01 0x8000 0 0 } (fun t =>
    t.regs == gen 0xA8 0xA8 0x8000 0 0 && t.pc == 0x0001 && t.r == 0x1 && t.cycles == 4 && seen t == []) = true := by decide

theorem test_v44_cp_n : after (place [(0x0000, 0xFE), (0x0001, 0x28)]) (fun t =>
    t.regs == gen 0 0xBB 0 0 0 && t.pc == 0x0002 && t.r == 0x1 && t.cycles == 7 && seen t == []) = true := by decide

theorem test_v45_cp_hl : after { place [(0x0000, 0xBE), (0x4000, 0x40)] with regs := gen 0x40 0 0 0 0x4000 } (fun t =>
    t.regs == gen 0x40 0x42 0 0 0x4000 && t.pc == 0x0001 && t.r == 0x1 && t.cycles == 7 && seen t == []) = true := by decide

theorem test_v47_inc_a : after { place [(0x0000, 0x3C)] with regs := gen 0x7F 0x01 0 0 0 } (fun t =>
    t.regs == gen 0x80 0x95 0 0 0 && t.pc == 0x0001 && t.r == 0x1 && t.cycles == 4 && seen t == []) = true := by decide

theorem test_v49_inc_hl : after { place [(0x0000, 0x34), (0x4000, 0x0F)] with regs := gen 0 0 0 0 0x4000 } (fun t =>
    t.regs == gen 0 0x10 0 0 0x4000 && t.pc == 0x0001 && t.r == 0x1 && t.cycles == 11 && seen t == [.write 0x4000 0x10]) = true := by decide

theorem test_v50_inc_ix_2 : after { place [(0x0000, 0xDD), (0x0001, 0x34), (0x0002, 0xFE), (0x4000, 0x80)] with ix := 0x4002 } (fun t =>
    t.regs == gen 0 0x80 0 0 0 && t.ix == 0x4002 && t.pc == 0x0003 && t.r == 0x2 && t.cycles == 23 && seen t == [.write 0x4000 0x81]) = true := by decide

theorem test_v51_inc_ixh : after { place [(0x0000, 0xDD), (0x0001, 0x24)] with regs := gen 0 0x01 0 0 0, ix := 0xFF00 } (fun t =>
    t.regs == gen 0 0x51 0 0 0 && t.ix == 0x0000 && t.pc == 0x0002 && t.r == 0x2 && t.cycles == 8 && seen t == []) = true := by decide

theorem test_v52_dec_a : after { place [(0x0000, 0x3D)] with regs := gen 0x80 0 0 0 0 } (fun t =>
    t.regs == gen 0x7F 0x3E 0 0 0 && t.pc == 0x0001 && t.r == 0x1 && t.cycles == 4 && seen t == []) = true := by decide

theorem test_v54_dec_hl : after { place [(0x0000, 0x35), (0x4000, 0x00)] with regs := gen 0 0 0 0 0x4000 } (fun t =>
    t.regs == gen 0 0xBA 0 0 0x4000 && t.pc == 0x0001 && t.r == 0x1 && t.cycles == 11 && seen t == [.write 0x4000 0xFF]) = true := by decide

theorem test_v55_dec_iyl : after { place [(0x0000, 0xFD), (0x0001, 0x2D)] with iy := 0x1200 } (fun t =>
    t.regs == gen 0 0xBA 0 0 0 && t.iy == 0x12FF && t.pc == 0x0002 && t.r == 0x2 && t.cycles == 8 && seen t == []) = true := by decide

theorem test_v56_daa_after_0x15_0x27 : after { place [(0x0000, 0x27)] with regs := gen 0x3C 0 0 0 0 } (fun t =>
    t.regs == gen 0x42 0x14 0 0 0 && t.pc == 0x0001 && t.r == 0x1 && t.cycles == 4 && seen t == []) = true := by decide

theorem test_v57_daa_a_0x9a : after { place [(0x0000, 0x27)] with regs := gen 0x9A 0 0 0 0 } (fun t =>
    t.regs == gen 0 0x55 0 0 0 && t.pc == 0x0001 && t.r == 0x1 && t.cycles == 4 && seen t == []) = true := by decide

theorem test_v60_cpl : after { place [(0x0000, 0x2F)] with regs := gen 0x5A 0 0 0 0 } (fun t =>
    t.regs == gen 0xA5 0x32 0 0 0 && t.pc == 0x0001 && t.r == 0x1 && t.cycles == 4 && seen t == []) = true := by decide

theorem test_v61_neg_0x80 : after { place [(0x0000, 0xED), (0x0001, 0x44)] with regs := gen 0x80 0 0 0 0 } (fun t =>
    t.regs == gen 0x80 0x87 0 0 0 && t.pc == 0x0002 && t.r == 0x2 && t.cycles == 8 && seen t == []) = true := by decide

theorem test_v64_ccf : after { place [(0x0000, 0x3F)] with regs := gen 0 0x01 0 0 0 } (fun t =>
    t.regs == gen 0 0x10 0 0 0 && t.pc == 0x0001 && t.r == 0x1 && t.cycles == 4 && seen t == []) = true := by decide

theorem test_v66_scf : after { place [(0x0000, 0x37)] with regs := gen 0xFF 0x12 0 0 0 } (fun t =>
    t.regs == gen 0xFF 0x29 0 0 0 && t.pc == 0x0001 && t.r == 0x1 && t.cycles == 4 && seen t == []) = true := by decide

theorem test_v67_add_hl_bc : after { place [(0x0000, 0x09)] with regs := gen 0 0xC4 0x0001 0 0x0FFF } (fun t =>
    t.regs == gen 0 0xD4 0x0001 0 0x1000 && t.pc == 0x0001 && t.r == 0x1 && t.cycles == 11 && seen t == []) = true := by decide

theorem test_v69_adc_hl_de : after { place [(0x0000, 0xED), (0x0001, 0x5A)] with regs := gen 0 0x01 0 0 0x7FFF } (fun t =>
    t.regs == gen 0 0x94 0 0 0x8000 && t.pc == 0x0002 && t.r == 0x2 && t.cycles == 15 && seen t == []) = true := by decide

theorem test_v71_sbc_hl_hl_with_c : after { place [(0x0000, 0xED), (0x0001, 0x62)] with regs := gen 0 0 0 0 0x1234 } (fun t =>
    t.regs == gen 0 0x42 0 0 0 && t.pc == 0x0002 && t.r == 0x2 && t.cycles == 15 && seen t == []) = true := by decide

theorem test_v74_add_ix_ix : after { place [(0x0000, 0xDD), (0x0001, 0x29)] with ix := 0x0800 } (fun t =>
    t.regs == gen 0 0x10 0 0 0 && t.ix == 0x1000 && t.pc == 0x0002 && t.r == 0x2 && t.cycles == 15 && seen t == []) = true := by decide

theorem test_v76_inc_sp_wraps_no_flags : after { place [(0x0000, 0x33)] with sp := 0xFFFF } (fun t =>
    t.regs == gen 0 0 0 0 0 && t.sp == 0x0000 && t.pc == 0x0001 && t.r == 0x1 && t.cycles == 6 && seen t == []) = true := by decide

theorem test_v77_dec_bc_wraps_no_flags : after (place [(0x0000, 0x0B)]) (fun t =>
    t.regs == gen 0 0 0xFFFF 0 0 && t.pc == 0x0001 && t.r == 0x1 && t.cycles == 6 && seen t == []) = true := by decide

theorem test_v78_inc_ix_wraps : after { place [(0x0000, 0xDD), (0x0001, 0x23)] with ix := 0xFFFF } (fun t =>
    t.regs == gen 0 0 0 0 0 && t.ix == 0x0000 && t.pc == 0x0002 && t.r == 0x2 && t.cycles == 10 && seen t == []) = true := by decide

theorem test_v79_ldi_with_bc_1 : after { place [(0x0000, 0xED), (0x0001, 0xA0), (0x4000, 0x0A)] with regs := gen 0 0xC1 0x0001 0x5000 0x4000 } (fun t =>
    t.regs == gen 0 0xE9 0 0x5001 0x4001 && t.pc == 0x0002 && t.r == 0x2 && t.cycles == 16 && seen t == [.write 0x5000 0x0A]) = true := by decide

theorem test_v81_ldd_with_bc_0 : after { place [(0x0000, 0xED), (0x0001, 0xA8), (0x4000, 0x08)] with regs := gen 0 0 0 0x5000 0x4000 } (fun t =>
    t.regs == gen 0 0x0C 0xFFFF 0x4FFF 0x3FFF && t.pc == 0x0002 && t.r == 0x2 && t.cycles == 16 && seen t == [.write 0x5000 0x08]) = true := by decide

theorem test_v82_ldir_step_that_repeats : after { place [(0x0000, 0xED), (0x0001, 0xB0), (0x4000, 0x11), (0x4001, 0x22)] with regs := gen 0 0 0x0002 0x5000 0x4000 } (fun t =>
    t.regs == gen 0 0x04 0x0001 0x5001 0x4001 && t.pc == 0x0000 && t.r == 0x2 && t.cycles == 21 && seen t == [.write 0x5000 0x11]) = true := by decide

theorem test_v83_ldir_step_that_retires : after { place [(0x0000, 0xED), (0x0001, 0xB0), (0x4001, 0x22)] with regs := gen 0 0 0x0001 0x5001 0x4001 } (fun t =>
    t.regs == gen 0 0x20 0 0x5002 0x4002 && t.pc == 0x0002 && t.r == 0x2 && t.cycles == 16 && seen t == [.write 0x5001 0x22]) = true := by decide

theorem test_v84_lddr_step_that_repeats : after { place [(0x0000, 0xED), (0x0001, 0xB8), (0x4001, 0x33)] with regs := gen 0 0 0x0002 0x5001 0x4001 } (fun t =>
    t.regs == gen 0 0x24 0x0001 0x5000 0x4000 && t.pc == 0x0000 && t.r == 0x2 && t.cycles == 21 && seen t == [.write 0x5001 0x33]) = true := by decide

theorem test_v85_cpi_match : after { place [(0x0000, 0xED), (0x0001, 0xA1), (0x4000, 0x10)] with regs := gen 0x10 0x01 0x0002 0 0x4000 } (fun t =>
    t.regs == gen 0x10 0x47 0x0001 0 0x4001 && t.pc == 0x0002 && t.r == 0x2 && t.cycles == 16 && seen t == []) = true := by decide

theorem test_v87_cpd : after { place [(0x0000, 0xED), (0x0001, 0xA9), (0x4000, 0x01)] with regs := gen 0 0 0x0001 0 0x4000 } (fun t =>
    t.regs == gen 0 0xBA 0 0 0x3FFF && t.pc == 0x0002 && t.r == 0x2 && t.cycles == 16 && seen t == []) = true := by decide

theorem test_v88_cpir_no_match_bc_0 : after { place [(0x0000, 0xED), (0x0001, 0xB1), (0x4000, 0x00)] with regs := gen 0x55 0 0x0003 0 0x4000 } (fun t =>
    t.regs == gen 0x55 0x06 0x0002 0 0x4001 && t.pc == 0x0000 && t.r == 0x2 && t.cycles == 21 && seen t == []) = true := by decide

theorem test_v89_cpir_match : after { place [(0x0000, 0xED), (0x0001, 0xB1), (0x4000, 0x55)] with regs := gen 0x55 0 0x0003 0 0x4000 } (fun t =>
    t.regs == gen 0x55 0x46 0x0002 0 0x4001 && t.pc == 0x0002 && t.r == 0x2 && t.cycles == 16 && seen t == []) = true := by decide

theorem test_v90_cpdr_bc_reaches_0 : after { place [(0x0000, 0xED), (0x0001, 0xB9), (0x4000, 0x00)] with regs := gen 0x55 0 0x0001 0 0x4000 } (fun t =>
    t.regs == gen 0x55 0x02 0 0 0x3FFF && t.pc == 0x0002 && t.r == 0x2 && t.cycles == 16 && seen t == []) = true := by decide

theorem test_v94_outi : after { place [(0x0000, 0xED), (0x0001, 0xA3), (0x4000, 0x7F)] with regs := gen 0 0 0x0110 0 0x4000 } (fun t =>
    t.regs == gen 0 0x44 0x0010 0 0x4001 && t.pc == 0x0002 && t.r == 0x2 && t.cycles == 16 && seen t == [.output 0x0010 0x7F]) = true := by decide

theorem test_v95_outd : after { place [(0x0000, 0xED), (0x0001, 0xAB), (0x4000, 0xFF)] with regs := gen 0 0 0x0520 0 0x4000 } (fun t =>
    t.regs == gen 0 0x13 0x0420 0 0x3FFF && t.pc == 0x0002 && t.r == 0x2 && t.cycles == 16 && seen t == [.output 0x0420 0xFF]) = true := by decide

theorem test_v96_otir_last_iteration : after { place [(0x0000, 0xED), (0x0001, 0xB3), (0x4000, 0x00)] with regs := gen 0 0 0x0110 0 0x4000 } (fun t =>
    t.regs == gen 0 0x40 0x0010 0 0x4001 && t.pc == 0x0002 && t.r == 0x2 && t.cycles == 16 && seen t == [.output 0x0010 0x00]) = true := by decide

theorem test_v97_otdr_step_that_repeats : after { place [(0x0000, 0xED), (0x0001, 0xBB), (0x4000, 0x00)] with regs := gen 0 0 0x0210 0 0x4000 } (fun t =>
    t.regs == gen 0 0x04 0x0110 0 0x3FFF && t.pc == 0x0000 && t.r == 0x2 && t.cycles == 21 && seen t == [.output 0x0110 0x00]) = true := by decide

theorem test_v98_rlca : after { place [(0x0000, 0x07)] with regs := gen 0x80 0xC4 0 0 0 } (fun t =>
    t.regs == gen 0x01 0xC5 0 0 0 && t.pc == 0x0001 && t.r == 0x1 && t.cycles == 4 && seen t == []) = true := by decide

theorem test_v99_rla : after { place [(0x0000, 0x17)] with regs := gen 0x80 0 0 0 0 } (fun t =>
    t.regs == gen 0 0x01 0 0 0 && t.pc == 0x0001 && t.r == 0x1 && t.cycles == 4 && seen t == []) = true := by decide

theorem test_v100_rrca : after { place [(0x0000, 0x0F)] with regs := gen 0x01 0x12 0 0 0 } (fun t =>
    t.regs == gen 0x80 0x01 0 0 0 && t.pc == 0x0001 && t.r == 0x1 && t.cycles == 4 && seen t == []) = true := by decide

theorem test_v101_rra : after { place [(0x0000, 0x1F)] with regs := gen 0x01 0x01 0 0 0 } (fun t =>
    t.regs == gen 0x80 0x01 0 0 0 && t.pc == 0x0001 && t.r == 0x1 && t.cycles == 4 && seen t == []) = true := by decide

theorem test_v102_rlc_hl : after { place [(0x0000, 0xCB), (0x0001, 0x06), (0x4000, 0x81)] with regs := gen 0 0 0 0 0x4000 } (fun t =>
    t.regs == gen 0 0x05 0 0 0x4000 && t.pc == 0x0002 && t.r == 0x2 && t.cycles == 15 && seen t == [.write 0x4000 0x03]) = true := by decide

theorem test_v103_rrc_c : after { place [(0x0000, 0xCB), (0x0001, 0x09)] with regs := gen 0 0 0x0001 0 0 } (fun t =>
    t.regs == gen 0 0x81 0x0080 0 0 && t.pc == 0x0002 && t.r == 0x2 && t.cycles == 8 && seen t == []) = true := by decide

theorem test_v104_rl_d : after { place [(0x0000, 0xCB), (0x0001, 0x12)] with regs := gen 0 0 0 0x8000 0 } (fun t =>
    t.regs == gen 0 0x45 0 0 0 && t.pc == 0x0002 && t.r == 0x2 && t.cycles == 8 && seen t == []) = true := by decide

theorem test_v105_rr_e : after { place [(0x0000, 0xCB), (0x0001, 0x1B)] with regs := gen 0 0x01 0 0x0001 0 } (fun t =>
    t.regs == gen 0 0x81 0 0x0080 0 && t.pc == 0x0002 && t.r == 0x2 && t.cycles == 8 && seen t == []) = true := by decide

theorem test_v106_sla_a : after { place [(0x0000, 0xCB), (0x0001, 0x27)] with regs := gen 0x81 0 0 0 0 } (fun t =>
    t.regs == gen 0x02 0x01 0 0 0 && t.pc == 0x0002 && t.r == 0x2 && t.cycles == 8 && seen t == []) = true := by decide

theorem test_v107_sra_b : after { place [(0x0000, 0xCB), (0x0001, 0x28)] with regs := gen 0 0 0x8100 0 0 } (fun t =>
    t.regs == gen 0 0x85 0xC000 0 0 && t.pc == 0x0002 && t.r == 0x2 && t.cycles == 8 && seen t == []) = true := by decide

theorem test_v108_sll_a : after { place [(0x0000, 0xCB), (0x0001, 0x37)] with regs := gen 0x80 0 0 0 0 } (fun t =>
    t.regs == gen 0x01 0x01 0 0 0 && t.pc == 0x0002 && t.r == 0x2 && t.cycles == 8 && seen t == []) = true := by decide

theorem test_v109_srl_a : after { place [(0x0000, 0xCB), (0x0001, 0x3F)] with regs := gen 0x81 0 0 0 0 } (fun t =>
    t.regs == gen 0x40 0x01 0 0 0 && t.pc == 0x0002 && t.r == 0x2 && t.cycles == 8 && seen t == []) = true := by decide

theorem test_v110_rlc_ix_1_b : after { place [(0x0000, 0xDD), (0x0001, 0xCB), (0x0002, 0x01), (0x0003, 0x00), (0x4000, 0x80)] with ix := 0x3FFF } (fun t =>
    t.regs == gen 0 0x01 0x0100 0 0 && t.ix == 0x3FFF && t.pc == 0x0004 && t.r == 0x2 && t.cycles == 23 && seen t == [.write 0x4000 0x01]) = true := by decide

theorem test_v112_rld : after { place [(0x0000, 0xED), (0x0001, 0x6F), (0x4000, 0x34)] with regs := gen 0x12 0x01 0 0 0x4000 } (fun t =>
    t.regs == gen 0x13 0x01 0 0 0x4000 && t.pc == 0x0002 && t.r == 0x2 && t.cycles == 18 && seen t == [.write 0x4000 0x42]) = true := by decide

theorem test_v113_rrd : after { place [(0x0000, 0xED), (0x0001, 0x67), (0x4000, 0x34)] with regs := gen 0x12 0 0 0 0x4000 } (fun t =>
    t.regs == gen 0x14 0x04 0 0 0x4000 && t.pc == 0x0002 && t.r == 0x2 && t.cycles == 18 && seen t == [.write 0x4000 0x23]) = true := by decide

theorem test_v114_bit_7_a_set : after { place [(0x0000, 0xCB), (0x0001, 0x7F)] with regs := gen 0x80 0 0 0 0 } (fun t =>
    t.regs == gen 0x80 0x90 0 0 0 && t.pc == 0x0002 && t.r == 0x2 && t.cycles == 8 && seen t == []) = true := by decide

theorem test_v116_bit_0_hl_under_bit : after { place [(0x0000, 0xCB), (0x0001, 0x46), (0x4000, 0xFE)] with regs := gen 0 0 0 0 0x4000 } (fun t =>
    t.regs == gen 0 0x7C 0 0 0x4000 && t.pc == 0x0002 && t.r == 0x2 && t.cycles == 12 && seen t == []) = true := by decide

theorem test_v117_bit_7_iy_16 : after { place [(0x0000, 0xFD), (0x0001, 0xCB), (0x0002, 0x10), (0x0003, 0x7E), (0x2800, 0x7F)] with iy := 0x27F0 } (fun t =>
    t.regs == gen 0 0x7C 0 0 0 && t.iy == 0x27F0 && t.pc == 0x0004 && t.r == 0x2 && t.cycles == 20 && seen t == []) = true := by decide

theorem test_v118_set_0_a : after (place [(0x0000, 0xCB), (0x0001, 0xC7)]) (fun t =>
    t.regs == gen 0x01 0 0 0 0 && t.pc == 0x0002 && t.r == 0x2 && t.cycles == 8 && seen t == []) = true := by decide

theorem test_v119_set_7_hl : after { place [(0x0000, 0xCB), (0x0001, 0xFE), (0x4000, 0x00)] with regs := gen 0 0xFF 0 0 0x4000 } (fun t =>
    t.regs == gen 0 0xFF 0 0 0x4000 && t.pc == 0x0002 && t.r == 0x2 && t.cycles == 15 && seen t == [.write 0x4000 0x80]) = true := by decide

theorem test_v120_set_0_ix_0 : after { place [(0x0000, 0xDD), (0x0001, 0xCB), (0x0002, 0x00), (0x0003, 0xC6), (0x4000, 0x00)] with ix := 0x4000 } (fun t =>
    t.regs == gen 0 0 0 0 0 && t.ix == 0x4000 && t.pc == 0x0004 && t.r == 0x2 && t.cycles == 23 && seen t == [.write 0x4000 0x01]) = true := by decide

theorem test_v121_set_7_ix_0_b : after { place [(0x0000, 0xDD), (0x0001, 0xCB), (0x0002, 0x00), (0x0003, 0xF8), (0x4000, 0x01)] with ix := 0x4000 } (fun t =>
    t.regs == gen 0 0 0x8100 0 0 && t.ix == 0x4000 && t.pc == 0x0004 && t.r == 0x2 && t.cycles == 23 && seen t == [.write 0x4000 0x81]) = true := by decide

theorem test_v122_res_0_a : after { place [(0x0000, 0xCB), (0x0001, 0x87)] with regs := gen 0xFF 0 0 0 0 } (fun t =>
    t.regs == gen 0xFE 0 0 0 0 && t.pc == 0x0002 && t.r == 0x2 && t.cycles == 8 && seen t == []) = true := by decide

theorem test_v123_res_7_iy_2 : after { place [(0x0000, 0xFD), (0x0001, 0xCB), (0x0002, 0x02), (0x0003, 0xBE), (0x4002, 0xFF)] with iy := 0x4000 } (fun t =>
    t.regs == gen 0 0 0 0 0 && t.iy == 0x4000 && t.pc == 0x0004 && t.r == 0x2 && t.cycles == 23 && seen t == [.write 0x4002 0x7F]) = true := by decide

theorem test_v124_res_7_iy_2_c : after { place [(0x0000, 0xFD), (0x0001, 0xCB), (0x0002, 0x02), (0x0003, 0xB9), (0x4002, 0xFF)] with iy := 0x4000 } (fun t =>
    t.regs == gen 0 0 0x007F 0 0 && t.iy == 0x4000 && t.pc == 0x0004 && t.r == 0x2 && t.cycles == 23 && seen t == [.write 0x4002 0x7F]) = true := by decide

theorem test_v125_jp_nn : after (place [(0x0000, 0xC3), (0x0001, 0x34), (0x0002, 0x12)]) (fun t =>
    t.regs == gen 0 0 0 0 0 && t.pc == 0x1234 && t.r == 0x1 && t.cycles == 10 && seen t == []) = true := by decide

theorem test_v126_jp_z_nn_not_taken : after (place [(0x0000, 0xCA), (0x0001, 0x00), (0x0002, 0x40)]) (fun t =>
    t.regs == gen 0 0 0 0 0 && t.pc == 0x0003 && t.r == 0x1 && t.cycles == 10 && seen t == []) = true := by decide

theorem test_v128_jr : after { place [(0x1000, 0x18), (0x1001, 0xFE)] with pc := 0x1000 } (fun t =>
    t.regs == gen 0 0 0 0 0 && t.pc == 0x1000 && t.r == 0x1 && t.cycles == 12 && seen t == []) = true := by decide

theorem test_v130_jr_c_not_taken : after (place [(0x0000, 0x38), (0x0001, 0x10)]) (fun t =>
    t.regs == gen 0 0 0 0 0 && t.pc == 0x0002 && t.r == 0x1 && t.cycles == 7 && seen t == []) = true := by decide

theorem test_v132_djnz_taken_b_2_1 : after { place [(0x0200, 0x10), (0x0201, 0xFE)] with regs := gen 0 0 0x0200 0 0, pc := 0x0200 } (fun t =>
    t.regs == gen 0 0 0x0100 0 0 && t.pc == 0x0200 && t.r == 0x1 && t.cycles == 13 && seen t == []) = true := by decide

theorem test_v135_jp_hl : after { place [(0x0000, 0xE9)] with regs := gen 0 0 0 0 0x1234 } (fun t =>
    t.regs == gen 0 0 0 0 0x1234 && t.pc == 0x1234 && t.r == 0x1 && t.cycles == 4 && seen t == []) = true := by decide

theorem test_v136_jp_iy : after { place [(0x0000, 0xFD), (0x0001, 0xE9)] with iy := 0xBEEF } (fun t =>
    t.regs == gen 0 0 0 0 0 && t.iy == 0xBEEF && t.pc == 0xBEEF && t.r == 0x2 && t.cycles == 8 && seen t == []) = true := by decide

theorem test_v137_call_nn_pushes_0x0126 : after { place [(0x0123, 0xCD), (0x0124, 0x00), (0x0125, 0x40)] with pc := 0x0123, sp := 0x8000 } (fun t =>
    t.regs == gen 0 0 0 0 0 && t.sp == 0x7FFE && t.pc == 0x4000 && t.r == 0x1 && t.cycles == 17 && seen t == [.write 0x7FFF 0x01, .write 0x7FFE 0x26]) = true := by decide

theorem test_v138_call_c_nn_not_taken : after { place [(0x0123, 0xDC), (0x0124, 0x00), (0x0125, 0x40)] with pc := 0x0123, sp := 0x8000 } (fun t =>
    t.regs == gen 0 0 0 0 0 && t.sp == 0x8000 && t.pc == 0x0126 && t.r == 0x1 && t.cycles == 10 && seen t == []) = true := by decide

theorem test_v140_ret : after { place [(0x0000, 0xC9), (0x7FFE, 0x26), (0x7FFF, 0x01)] with sp := 0x7FFE } (fun t =>
    t.regs == gen 0 0 0 0 0 && t.sp == 0x8000 && t.pc == 0x0126 && t.r == 0x1 && t.cycles == 10 && seen t == []) = true := by decide

theorem test_v141_ret_nz_not_taken : after { place [(0x0000, 0xC0), (0x7FFE, 0x26), (0x7FFF, 0x01)] with regs := gen 0 0x40 0 0 0, sp := 0x7FFE } (fun t =>
    t.regs == gen 0 0x40 0 0 0 && t.sp == 0x7FFE && t.pc == 0x0001 && t.r == 0x1 && t.cycles == 5 && seen t == []) = true := by decide

theorem test_v143_rst_38h : after { place [(0x1234, 0xFF)] with pc := 0x1234, sp := 0x8000 } (fun t =>
    t.regs == gen 0 0 0 0 0 && t.sp == 0x7FFE && t.pc == 0x0038 && t.r == 0x1 && t.cycles == 11 && seen t == [.write 0x7FFF 0x12, .write 0x7FFE 0x35]) = true := by decide

theorem test_v144_reti : after { place [(0x0000, 0xED), (0x0001, 0x4D), (0x7FFE, 0x00), (0x7FFF, 0x02)] with sp := 0x7FFE, iff1 := false, iff2 := true } (fun t =>
    t.regs == gen 0 0 0 0 0 && t.sp == 0x8000 && t.iff1 == true && t.pc == 0x0200 && t.r == 0x2 && t.cycles == 14 && seen t == [.retiSignal]) = true := by decide

theorem test_v145_retn : after { place [(0x0000, 0xED), (0x0001, 0x45), (0x7FFE, 0x00), (0x7FFF, 0x02)] with sp := 0x7FFE, iff1 := false, iff2 := true } (fun t =>
    t.regs == gen 0 0 0 0 0 && t.sp == 0x8000 && t.iff1 == true && t.pc == 0x0200 && t.r == 0x2 && t.cycles == 14 && seen t == []) = true := by decide

theorem test_v147_nop : after (place [(0x0000, 0x00)]) (fun t =>
    t.regs == gen 0 0 0 0 0 && t.pc == 0x0001 && t.r == 0x1 && t.cycles == 4 && seen t == []) = true := by decide

theorem test_v148_halt : after { place [(0x0100, 0x76)] with pc := 0x0100 } (fun t =>
    t.regs == gen 0 0 0 0 0 && t.halted == true && t.pc == 0x0101 && t.r == 0x1 && t.cycles == 4 && seen t == []) = true := by decide

theorem test_v149_di : after { place [(0x0000, 0xF3)] with iff1 := true, iff2 := true } (fun t =>
    t.regs == gen 0 0 0 0 0 && t.iff1 == false && t.iff2 == false && t.pc == 0x0001 && t.r == 0x1 && t.cycles == 4 && seen t == []) = true := by decide

theorem test_v150_ei : after { place [(0x0000, 0xFB)] with iff1 := false, iff2 := false } (fun t =>
    t.regs == gen 0 0 0 0 0 && t.iff1 == true && t.iff2 == true && t.intInhibit == .ei && t.pc == 0x0001 && t.r == 0x1 && t.cycles == 4 && seen t == []) = true := by decide

theorem test_v151_im_2 : after { place [(0x0000, 0xED), (0x0001, 0x5E)] with im := .im0 } (fun t =>
    t.regs == gen 0 0 0 0 0 && t.im == .im2 && t.pc == 0x0002 && t.r == 0x2 && t.cycles == 8 && seen t == []) = true := by decide

theorem test_v153_ed_undefined : after (place [(0x0000, 0xED), (0x0001, 0x00)]) (fun t =>
    t.regs == gen 0 0 0 0 0 && t.pc == 0x0002 && t.r == 0x2 && t.cycles == 8 && seen t == []) = true := by decide

theorem test_v155_dd_nop : after (place [(0x0000, 0xDD), (0x0001, 0x00)]) (fun t =>
    t.regs == gen 0 0 0 0 0 && t.pc == 0x0002 && t.r == 0x2 && t.cycles == 8 && seen t == []) = true := by decide

theorem test_v161_out_n_a : after { place [(0x0000, 0xD3), (0x0001, 0x10)] with regs := gen 0x77 0 0 0 0 } (fun t =>
    t.regs == gen 0x77 0 0 0 0 && t.pc == 0x0002 && t.r == 0x1 && t.cycles == 11 && seen t == [.output 0x7710 0x77]) = true := by decide

theorem test_v162_out_c_e : after { place [(0x0000, 0xED), (0x0001, 0x59)] with regs := gen 0 0 0x0102 0x0033 0 } (fun t =>
    t.regs == gen 0 0 0x0102 0x0033 0 && t.pc == 0x0002 && t.r == 0x2 && t.cycles == 12 && seen t == [.output 0x0102 0x33]) = true := by decide

theorem test_v164_out_c_0 : after { place [(0x0000, 0xED), (0x0001, 0x71)] with regs := gen 0 0 0x0102 0 0 } (fun t =>
    t.regs == gen 0 0 0x0102 0 0 && t.pc == 0x0002 && t.r == 0x2 && t.cycles == 12 && seen t == [.output 0x0102 0x00]) = true := by decide

theorem test_v165_dd_dd_ld_ix_nn : after { place [(0x0000, 0xDD), (0x0001, 0xDD), (0x0002, 0x21), (0x0003, 0x34), (0x0004, 0x12)] with ix := 0x0000 } (fun t =>
    t.regs == gen 0 0 0 0 0 && t.ix == 0x1234 && t.pc == 0x0005 && t.r == 0x3 && t.cycles == 18 && seen t == []) = true := by decide

theorem test_v166_dd_fd_ld_iy_nn : after { place [(0x0000, 0xDD), (0x0001, 0xFD), (0x0002, 0x21), (0x0003, 0x34), (0x0004, 0x12)] with ix := 0x0000, iy := 0x0000 } (fun t =>
    t.regs == gen 0 0 0 0 0 && t.ix == 0x0000 && t.iy == 0x1234 && t.pc == 0x0005 && t.r == 0x3 && t.cycles == 18 && seen t == []) = true := by decide

theorem test_v168_ld_ix_5_h : after { place [(0x0000, 0xDD), (0x0001, 0x74), (0x0002, 0x05)] with regs := gen 0 0 0 0 0x9900, ix := 0x4000 } (fun t =>
    t.regs == gen 0 0 0 0 0x9900 && t.ix == 0x4000 && t.pc == 0x0003 && t.r == 0x2 && t.cycles == 19 && seen t == [.write 0x4005 0x99]) = true := by decide

theorem test_v169_ld_a_ixh : after { place [(0x0000, 0xDD), (0x0001, 0x7C)] with ix := 0x1234 } (fun t =>
    t.regs == gen 0x12 0 0 0 0 && t.ix == 0x1234 && t.pc == 0x0002 && t.r == 0x2 && t.cycles == 8 && seen t == []) = true := by decide

theorem test_v170_bit_0_ix_128 : after { place [(0x0000, 0xDD), (0x0001, 0xCB), (0x0002, 0x80), (0x0003, 0x46), (0x4000, 0x00)] with ix := 0x4080 } (fun t =>
    t.regs == gen 0 0x54 0 0 0 && t.ix == 0x4080 && t.pc == 0x0004 && t.r == 0x2 && t.cycles == 20 && seen t == []) = true := by decide

theorem test_v171_nmi_while_running : after { place [] with pc := 0x1234, sp := 0x8000, iff1 := true, iff2 := true, nmiPending := true } (fun t =>
    t.regs == gen 0 0 0 0 0 && t.sp == 0x7FFE && t.iff1 == false && t.nmiPending == false && t.pc == 0x0066 && t.r == 0x1 && t.cycles == 11 && seen t == [.intAck .nmi, .write 0x7FFF 0x12, .write 0x7FFE 0x34]) = true := by decide

theorem test_v172_nmi_while_halted : after { place [] with pc := 0x0101, halted := true, sp := 0x8000, iff1 := false, iff2 := false, nmiPending := true } (fun t =>
    t.regs == gen 0 0 0 0 0 && t.sp == 0x7FFE && t.halted == false && t.nmiPending == false && t.pc == 0x0066 && t.r == 0x1 && t.cycles == 11 && seen t == [.intAck .nmi, .write 0x7FFF 0x01, .write 0x7FFE 0x01]) = true := by decide

theorem test_v173_im1 : after { place [] with pc := 0x0200, sp := 0x8000, im := .im1, iff1 := true, iff2 := true, intLine := true, intData := 0xFF } (fun t =>
    t.regs == gen 0 0 0 0 0 && t.sp == 0x7FFE && t.iff1 == false && t.iff2 == false && t.pc == 0x0038 && t.r == 0x1 && t.cycles == 13 && seen t == [.intAck .im1, .write 0x7FFF 0x02, .write 0x7FFE 0x00]) = true := by decide

theorem test_v174_im2_the_source_s_vector : after { place [(0x1004, 0x34), (0x1005, 0x12)] with pc := 0x0300, sp := 0x8000, im := .im2, i := 0x10, iff1 := true, iff2 := true, intLine := true, intData := 0x04 } (fun t =>
    t.regs == gen 0 0 0 0 0 && t.sp == 0x7FFE && t.iff1 == false && t.iff2 == false && t.pc == 0x1234 && t.r == 0x1 && t.cycles == 19 && seen t == [.intAck .im2, .write 0x7FFF 0x03, .write 0x7FFE 0x00]) = true := by decide

theorem test_v175_im2_with_an_odd_vector : after { place [(0x1005, 0x78), (0x1006, 0x56)] with pc := 0x0300, sp := 0x8000, im := .im2, i := 0x10, iff1 := true, iff2 := true, intLine := true, intData := 0x05 } (fun t =>
    t.regs == gen 0 0 0 0 0 && t.sp == 0x7FFE && t.iff1 == false && t.iff2 == false && t.pc == 0x5678 && t.r == 0x1 && t.cycles == 19 && seen t == [.intAck .im2, .write 0x7FFF 0x03, .write 0x7FFE 0x00]) = true := by decide

theorem test_v176_im2_table_read_wraps : after { place [(0x0000, 0xAB), (0xFFFF, 0xCD)] with pc := 0x0300, sp := 0x8000, im := .im2, i := 0xFF, iff1 := true, iff2 := true, intLine := true, intData := 0xFF } (fun t =>
    t.regs == gen 0 0 0 0 0 && t.sp == 0x7FFE && t.iff1 == false && t.iff2 == false && t.pc == 0xABCD && t.r == 0x1 && t.cycles == 19 && seen t == [.intAck .im2, .write 0x7FFF 0x03, .write 0x7FFE 0x00]) = true := by decide

theorem test_v177_im0_with_rst_08h : after { place [] with pc := 0x0400, sp := 0x8000, im := .im0, iff1 := true, iff2 := true, intLine := true, intData := 0xCF } (fun t =>
    t.regs == gen 0 0 0 0 0 && t.sp == 0x7FFE && t.iff1 == false && t.iff2 == false && t.pc == 0x0008 && t.r == 0x1 && t.cycles == 13 && seen t == [.intAck .im0, .write 0x7FFF 0x04, .write 0x7FFE 0x00]) = true := by decide

theorem test_v178_im0_with_a_floating_bus : after { place [] with pc := 0x0400, sp := 0x8000, im := .im0, iff1 := true, iff2 := true, intLine := true, intData := 0xFF } (fun t =>
    t.regs == gen 0 0 0 0 0 && t.sp == 0x7FFE && t.iff1 == false && t.iff2 == false && t.pc == 0x0038 && t.r == 0x1 && t.cycles == 13 && seen t == [.intAck .im0, .write 0x7FFF 0x04, .write 0x7FFE 0x00]) = true := by decide

theorem test_v180_int_masked_by_iff1_0 : after { place [(0x0500, 0x00)] with pc := 0x0500, im := .im1, iff1 := false, iff2 := false, intLine := true } (fun t =>
    t.regs == gen 0 0 0 0 0 && t.pc == 0x0501 && t.r == 0x1 && t.cycles == 4 && seen t == []) = true := by decide

theorem test_v181_int_in_the_ei_shadow : after { place [(0x0600, 0x00)] with pc := 0x0600, im := .im1, iff1 := true, iff2 := true, intInhibit := .ei, intLine := true } (fun t =>
    t.regs == gen 0 0 0 0 0 && t.intInhibit == .none && t.pc == 0x0601 && t.r == 0x1 && t.cycles == 4 && seen t == []) = true := by decide

theorem test_v182_nmi_in_the_ei_shadow : after { place [] with pc := 0x0600, sp := 0x8000, im := .im1, iff1 := true, iff2 := true, intInhibit := .ei, nmiPending := true } (fun t =>
    t.regs == gen 0 0 0 0 0 && t.sp == 0x7FFE && t.iff1 == false && t.intInhibit == .none && t.nmiPending == false && t.pc == 0x0066 && t.r == 0x1 && t.cycles == 11 && seen t == [.intAck .nmi, .write 0x7FFF 0x06, .write 0x7FFE 0x00]) = true := by decide

theorem test_v183_halted_with_int_pending_and : after { place [] with pc := 0x0701, halted := true, im := .im1, iff1 := false, iff2 := false, intLine := true } (fun t =>
    t.regs == gen 0 0 0 0 0 && t.pc == 0x0701 && t.r == 0x1 && t.cycles == 4 && seen t == []) = true := by decide

theorem test_v184_halted_and_quiet : after { place [] with pc := 0x0701, halted := true, iff1 := true, iff2 := true } (fun t =>
    t.regs == gen 0 0 0 0 0 && t.pc == 0x0701 && t.r == 0x1 && t.cycles == 4 && seen t == []) = true := by decide

theorem test_v185_nmi_and_int_together : after { place [] with pc := 0x0800, sp := 0x8000, im := .im1, iff1 := true, iff2 := true, nmiPending := true, intLine := true } (fun t =>
    t.regs == gen 0 0 0 0 0 && t.sp == 0x7FFE && t.iff1 == false && t.nmiPending == false && t.pc == 0x0066 && t.r == 0x1 && t.cycles == 11 && seen t == [.intAck .nmi, .write 0x7FFF 0x08, .write 0x7FFE 0x00]) = true := by decide

theorem test_v186_im1_while_halted : after { place [] with pc := 0x0901, halted := true, sp := 0x8000, im := .im1, iff1 := true, iff2 := true, intLine := true } (fun t =>
    t.regs == gen 0 0 0 0 0 && t.sp == 0x7FFE && t.iff1 == false && t.iff2 == false && t.halted == false && t.pc == 0x0038 && t.r == 0x1 && t.cycles == 13 && seen t == [.intAck .im1, .write 0x7FFF 0x09, .write 0x7FFE 0x01]) = true := by decide

theorem test_v187_push_wraps_sp : after { place [] with pc := 0x0A00, sp := 0x0001, im := .im1, iff1 := true, iff2 := true, intLine := true } (fun t =>
    t.regs == gen 0 0 0 0 0 && t.sp == 0xFFFF && t.iff1 == false && t.iff2 == false && t.pc == 0x0038 && t.r == 0x1 && t.cycles == 13 && seen t == [.intAck .im1, .write 0x0000 0x0A, .write 0xFFFF 0x00]) = true := by decide

/-! The port vectors: the launch's `Ports(p = v, …)` is a device model (R1461). -/

theorem test_v157_in_a_n : after { place [(0x0000, 0xDB), (0x0001, 0xFE)] with
    ports := some [(0x12FE, 0x5A)], regs := gen 0x12 0xFF 0 0 0 } (fun t =>
    t.regs == gen 0x5A 0xFF 0 0 0 && t.pc == 0x0002 && t.r == 0x01 && t.cycles == 11 && seen t == [.input 0x12FE 0x5A]) = true := by decide

theorem test_v159_in_b_c : after { place [(0x0000, 0xED), (0x0001, 0x40)] with
    ports := some [(0x1234, 0x80)], regs := gen 0 0 0x1234 0 0 } (fun t =>
    t.regs == gen 0 0x80 0x8034 0 0 && t.pc == 0x0002 && t.r == 0x02 && t.cycles == 12 && seen t == [.input 0x1234 0x80]) = true := by decide

theorem test_v160_in_f_c : after { place [(0x0000, 0xED), (0x0001, 0x70)] with
    ports := some [(0x1234, 0x28)], regs := gen 0 0 0x1234 0 0 } (fun t =>
    t.regs == gen 0 0x2C 0x1234 0 0 && t.pc == 0x0002 && t.cycles == 12 && seen t == [.input 0x1234 0x28]) = true := by decide

/-- INI reads the port with B before its decrement (R720). -/
theorem test_v91_ini : after { place [(0x0000, 0xED), (0x0001, 0xA2)] with
    ports := some [(0x0110, 0x80)], regs := gen 0 0 0x0110 0 0x4000 } (fun t =>
    t.regs == gen 0 0x42 0x0010 0 0x4001 && t.pc == 0x0002 && t.cycles == 16 &&
      seen t == [.input 0x0110 0x80, .write 0x4000 0x80]) = true := by decide

theorem test_v92_ind : after { place [(0x0000, 0xED), (0x0001, 0xAA)] with
    ports := some [(0x0200, 0xFF)], regs := gen 0 0 0x0200 0 0x4000 } (fun t =>
    t.regs == gen 0 0x13 0x0100 0 0x3FFF && t.pc == 0x0002 && t.cycles == 16 &&
      seen t == [.input 0x0200 0xFF, .write 0x4000 0xFF]) = true := by decide

theorem test_v93_inir_repeats : after { place [(0x0000, 0xED), (0x0001, 0xB2)] with
    ports := some [(0x0210, 0x01)], regs := gen 0 0 0x0210 0 0x4000 } (fun t =>
    t.regs == gen 0 0x04 0x0110 0 0x4001 && t.pc == 0x0000 && t.r == 0x02 && t.cycles == 21 &&
      seen t == [.input 0x0210 0x01, .write 0x4000 0x01]) = true := by decide

/-! RESET_REGS = FAULT_ON_READ (R130, R1403). -/

/-- Power-on under FAULT_ON_READ, these bytes at 0x0000 in plain RAM. -/
def faultOnRead (cells : List (Word × Byte)) : State :=
  (State.powerOn { Config.defaultParams with resetRegs := .faultOnRead }).withRam 0 0xFFFF cells

/-- BLOCK_REPEAT_FLAGS = ANY. -/
def demoLdir : State := { State.reset with params := { Config.defaultParams with blockRepeatFlags := .any } }

/-- PUSH BC before SP is loaded faults, naming SP (R1403 item 2). -/
theorem test_push_before_sp : step (faultOnRead [(0x0000, 0xC5)]) = .fault (.readBeforeWrite .sp) := by rfl

/-- ADC A,n reads the carry (R1403 item 5). -/
theorem test_adc_before_flags : step { faultOnRead [(0x0000, 0xCE)] with unwritten := [.flag .z, .flag .c] } =
    .fault (.readBeforeWrite (.flag .c)) := by rfl

/-- XOR A does not depend on A (launch P2), and defines it with all flags. -/
theorem test_xor_a_reads_nothing : after (faultOnRead [(0x0000, 0xAF)]) (fun t =>
    decide (.main .a ∉ t.unwritten) && decide (.flag .c ∉ t.unwritten) && decide (.main .b ∈ t.unwritten)) = true := by decide

/-- EX AF,AF' reads F whole (R119): one unwritten flag is enough, in F or in F'. -/
theorem test_ex_af_reads_flags : step { faultOnRead [(0x0000, 0x08)] with unwritten := [.flag .y] } = .fault (.readBeforeWrite (.flag .y)) ∧
    step { faultOnRead [(0x0000, 0x08)] with unwritten := [.shadowFlag .c] } = .fault (.readBeforeWrite (.shadowFlag .c)) :=
  ⟨rfl, rfl⟩

/-- EXX neither reads nor writes A and F (R442). -/
theorem test_exx_spares_af : step { faultOnRead [(0x0000, 0xD9)] with unwritten := [.main .a, .shadow .l] } =
      .fault (.readBeforeWrite (.shadow .l)) ∧
    after { faultOnRead [(0x0000, 0xD9)] with unwritten := [.main .a] } (fun t => t.unwritten == [.main .a]) = true :=
  ⟨rfl, by decide⟩

/-- LD B,B behaves as NOP (R400): it neither reads nor defines B; LD B,C reads C. -/
theorem test_ld_same_register_is_nop : after (faultOnRead [(0x0000, 0x40)]) (fun t => decide (.main .b ∈ t.unwritten) && t.pc == 0x0001) = true ∧
    step (faultOnRead [(0x0000, 0x41)]) = .fault (.readBeforeWrite (.main .c)) := ⟨by decide, rfl⟩

/-- SUB A reads A (R512, R502). -/
theorem test_sub_a_reads_a : step (faultOnRead [(0x0000, 0x97)]) = .fault (.readBeforeWrite (.main .a)) := by rfl

/-- A repeating LDIR step that draws Y and X does not read A, and the step that retires does (log 17). -/
theorem test_ldir_any_reads_a : .main .a ∉ ldirReads { demoLdir with regs := gen 0 0 0x0002 0 0 } ∧
    .main .a ∈ ldirReads { demoLdir with regs := gen 0 0 0x0001 0 0 } := by decide

/-! The NMI inside an NMI handler, as R1322 and as R1327 have it (log 16). -/

def nestedNmi (k : NmiIff2) : State :=
  { place [] with pc := 0x0100, sp := 0x8000, iff1 := false, iff2 := true, nmiPending := true
                  params := { Config.defaultParams with nmiIff2 := k } }

theorem test_nested_nmi_iff2 : after (nestedNmi .keep) (fun t => t.iff2) = true ∧
    after (nestedNmi .fromIff1) (fun t => t.iff2 == false) = true := by decide

/-! Launches (R1460, R1461). -/

/-- A machine that is halted with interrupts off is at the end of its run at once. -/
theorem test_end_halt_at_once :
    Launch.endsAt ⟨{ State.reset with halted := true }, drive [], none⟩ 0 ⟨1, { State.reset with halted := true }⟩ :=
  ⟨rfl, by unfold Launch.ended; decide, fun m h => absurd h (Nat.not_lt_zero m)⟩

/-- An NMI the host requests there keeps it going (log 18). -/
theorem test_nmi_delays_end : ¬Launch.ended ⟨{ State.reset with halted := true }, drive [.nmiAt 1], none⟩
    ⟨1, { State.reset with halted := true }⟩ := by
  unfold Launch.ended
  decide

/-- IM0 with a byte that is not an RST is refused (vector V179, R1325, R1330). -/
theorem test_v179_im0_not_rst :
    step { State.reset with pc := 0x0400, sp := 0x8000, iff1 := true, iff2 := true, intLine := true } = .refused .im0NotRst := by rfl

/-- The reset vector V188 (R1400). -/
theorem test_v188_reset : State.reset.pc = 0x0000 ∧ State.reset.i = 0x00 ∧ State.reset.r = 0x00 ∧ State.reset.iff1 = false ∧
    State.reset.im = .im0 ∧ State.reset.halted = false ∧ State.reset.nmiPending = false := by decide

/-- An opcode-table word runs as the first instruction after reset, in plain RAM for its own bytes alone. -/
theorem test_with_fetch_word : after (State.reset.withFetchWord 8 0x76) (fun t => t.halted && t.pc == 0x0001) = true := by decide

/-! ## Witnesses of the hypotheses -/

/-- A running machine with some memory, its stack and pointers in plain RAM. -/
def demo : State :=
  { place [(0x0100, 0xFB), (0x0101, 0x00), (0x4000, 0x12), (0x7FFE, 0x34)] with
    pc := 0x0100, sp := 0x8000, regs := gen 0x99 0x00 0x0002 0x5000 0x4000 }

theorem demo_wf : Memory.wf demo.mem := by decide

/-- The same machine halted. -/
def demoHalted : State := { demo with halted := true, pc := 0x0200 }

/-- The same machine with an INT that is due, in mode m with data byte v. -/
def demoInt (m : IntMode) (v : Byte) : State := { demo with iff1 := true, iff2 := true, intLine := true, im := m, intData := v, i := 0x10 }

/-- The same machine with an NMI pending. -/
def demoNmi : State := { demo with nmiPending := true, iff2 := true }

theorem test_hyp_ByteStoresWriteOneByte : Memory.wf demo.mem := demo_wf
theorem test_hyp_WordStoresAreLittleEndian : Memory.wf demo.mem := demo_wf
theorem test_hyp_PushStoresBelowSp : Memory.wf demo.mem := demo_wf
theorem test_hyp_ExchangeWithStackTop : Memory.wf demo.mem := demo_wf
theorem test_hyp_ByteIncrementAndDecrement : Memory.wf demo.mem := demo_wf
theorem test_hyp_RotatesOnRegisterAndMemory : Memory.wf demo.mem := demo_wf
theorem test_hyp_RotatesOnIndexedMemory : Memory.wf demo.mem := demo_wf
theorem test_hyp_DigitRotates : Memory.wf demo.mem := demo_wf
theorem test_hyp_SetAndResChangeOneBit : Memory.wf demo.mem := demo_wf

/-- Outside the quirk, and inside it: parameter, line and IFF1. -/
theorem test_hyp_TransfersWithIAndR :
    ¬(demo.params.ldAIrQuirk = .any ∧ demo.intLine = true ∧ demo.iff1 = true) ∧
    (demoInt .im1 0).intLine = true ∧ (demoInt .im1 0).iff1 = true ∧
    { demoInt .im1 0 with params := { Config.defaultParams with ldAIrQuirk := .any } }.params.ldAIrQuirk = .any := by decide

theorem test_hyp_PopAfterPushRestores : Memory.wf demo.mem ∧ demo.isRam (demo.sp - 1) = true ∧ demo.isRam (demo.sp - 2) = true ∧
    ∃ t, exec (.pushQq .bc) demo = .next t := ⟨demo_wf, by decide, by decide, _, rfl⟩

theorem test_hyp_ExchangesSwapAndUndo : (∃ t, exec .exDeHl demo = .next t) ∧ (∃ t, exec .exAfAf demo = .next t) ∧
    ∃ t, exec .exx demo = .next t := ⟨⟨_, rfl⟩, ⟨_, rfl⟩, ⟨_, rfl⟩⟩

/-- At the boundary 99 + 1 and, for the subtraction, 99 - 99; and at 0 - 1. -/
theorem test_hyp_DaaCorrectsDecimalAddAndSub : demo.regs.a = BitVec.ofNat 8 (99 / 10 * 16 + 99 % 10) ∧
    (∃ t, exec (.addAN 0x01) demo = .next t) ∧ (∃ t, exec (.subN 0x99) demo = .next t) ∧
    State.reset.regs.a = BitVec.ofNat 8 (0 / 10 * 16 + 0 % 10) ∧ ∃ t, exec (.subN 0x01) State.reset = .next t :=
  ⟨by decide, ⟨_, rfl⟩, ⟨_, rfl⟩, by decide, ⟨_, rfl⟩⟩

theorem test_hyp_AccumulatorAndCarryInstructions : demo.params.scfCcfXy = .fromA := by decide

theorem test_hyp_BitTestWritesFlagsOnly : demo.params.bitHlXy = .operand ∧ demo.params.bitIdxXy = .addrHigh := by decide

/-- A repeating step (BC = 2) and an ending one (BC = 1), neither drawing flags. -/
theorem test_hyp_BlockTransferStep : Memory.wf demo.mem ∧ demo.regs.bc - 1 ≠ 0 ∧
    (gen 0 0 0x0001 0x5000 0x4000).bc - 1 = 0 ∧ ¬(true = true ∧ demo.params.blockRepeatFlags = .any) := by decide

/-- A repeating step, one ended by BC and one ended by a match (A equal to the byte at HL). -/
theorem test_hyp_BlockSearchStep : (demo.regs.bc - 1 ≠ 0 ∧ demo.regs.a ≠ memRead demo.mem 0x4000) ∧
    (gen 0 0 0x0001 0 0).bc - 1 = 0 ∧ (gen 0x12 0 0x0002 0 0x4000).a = memRead demo.mem 0x4000 := by decide

/-- B = 1 ends, B = 0 wraps and goes on. -/
theorem test_hyp_BlockInputStep : Memory.wf demo.mem ∧ (gen 0 0 0x0100 0 0).b - 1 = 0 ∧ demo.regs.b - 1 ≠ 0 ∧
    ¬(true = true ∧ demo.params.blockRepeatFlags = .any) := by decide

theorem test_hyp_BlockOutputStep : (gen 0 0 0x0100 0 0).b - 1 = 0 ∧ demo.regs.b - 1 ≠ 0 ∧
    ¬(true = true ∧ demo.params.blockRepeatFlags = .any) := by decide

theorem test_hyp_RrdUndoesRld : Memory.wf demo.mem ∧ demo.isRam demo.regs.hl = true ∧
    ∃ t u, exec .rld demo = .next t ∧ exec .rrd t = .next u := ⟨demo_wf, by decide, _, _, rfl, rfl⟩

/-- Both sides of a condition. -/
theorem test_hyp_CallsPushTheReturnAddress : Memory.wf demo.mem ∧ holds .nz demo.regs.f = true ∧ holds .z demo.regs.f = false := by decide

theorem test_hyp_ReturnsPopPc : holds .po demo.regs.f = true ∧ holds .pe demo.regs.f = false := by decide

/-- The same state under FAULT_ON_READ, SP unwritten. -/
def noSp (s : State) : State := { s with params := { s.params with resetRegs := .faultOnRead }, unwritten := [.sp] }

theorem spReadable_demo : SpReadable demo ∧ ¬SpReadable (noSp demo) := by unfold SpReadable; decide

theorem test_hyp_NmiAcceptance : Memory.wf demoNmi.mem ∧ demoNmi.fetching = none ∧ demoNmi.nmiPending = true ∧ SpReadable demoNmi ∧
    Memory.wf (noSp demoNmi).mem ∧ (noSp demoNmi).fetching = none ∧ (noSp demoNmi).nmiPending = true ∧ ¬SpReadable (noSp demoNmi) := by
  unfold SpReadable
  decide

/-- Every mode; in IM 0 the first and the last RST byte. -/
theorem test_hyp_InterruptModesZeroAndOne : Memory.wf (demoInt .im1 0).mem ∧ IntDue (demoInt .im1 0) ∧ (demoInt .im1 0).im = .im1 ∧
    IntDue (demoInt .im0 0xC7) ∧ (demoInt .im0 0xC7).intData &&& 0xC7 = 0xC7 ∧
    IntDue (demoInt .im0 0xFF) ∧ (demoInt .im0 0xFF).intData &&& 0xC7 = 0xC7 ∧ SpReadable (demoInt .im1 0) ∧
    SpReadable (demoInt .im0 0xC7) ∧ IntDue (noSp (demoInt .im1 0)) ∧ ¬SpReadable (noSp (demoInt .im1 0)) := by
  unfold IntDue SpReadable
  decide

/-- A vector in plain RAM, and a vector outside plain RAM; SP that may be read, and SP that may not. -/
theorem test_hyp_InterruptModeTwoAcceptance : Memory.wf (demoInt .im2 0xFF).mem ∧ IntDue (demoInt .im2 0xFF) ∧
    (demoInt .im2 0xFF).im = .im2 ∧ (demoInt .im2 0xFF).isRam 0x10FF = true ∧ (demoInt .im2 0xFF).isRam 0x1100 = true ∧
    ({ demoInt .im2 0xFF with ram := [⟨0x1100, 0xFFFF⟩] } : State).isRam 0x10FF = false ∧ SpReadable (demoInt .im2 0xFF) ∧
    IntDue (noSp (demoInt .im2 0xFF)) ∧ ¬SpReadable (noSp (demoInt .im2 0xFF)) := by
  unfold IntDue SpReadable
  decide

/-- A refused step, one that goes on, and one that faults. -/
theorem test_hyp_OnlyNonRstInModeZeroIsRefused : (IntDue (demoInt .im0 0x00) ∧ (demoInt .im0 0x00).intData &&& 0xC7 ≠ 0xC7) ∧
    step (demoInt .im0 0x00) = .refused .im0NotRst ∧ (∃ t, step demo = .next t) ∧
    step (noSp demoNmi) = .fault (.readBeforeWrite .sp) :=
  ⟨by unfold IntDue; decide, rfl, ⟨_, rfl⟩, rfl⟩

/-- An NMI, an INT and neither. -/
theorem test_hyp_AcknowledgesExactlyWhenDue : (demoNmi.fetching = none ∧ ∃ t, step demoNmi = .next t) ∧
    ((demoInt .im2 0).fetching = none ∧ ∃ t, step (demoInt .im2 0) = .next t) ∧ demo.fetching = none ∧ ∃ t, step demo = .next t :=
  ⟨⟨rfl, _, rfl⟩, ⟨rfl, _, rfl⟩, rfl, _, rfl⟩

/-- `demo` executes EI, then NOP with the line active. -/
theorem test_hyp_EiDefersOneStep : ∃ t u, ({ demo with intLine := true } : State).fetching = none ∧
    step { demo with intLine := true } = .next t ∧ t.intInhibit = .ei ∧ t.nmiPending = false ∧ step t = .next u :=
  ⟨_, _, rfl, rfl, rfl, rfl, rfl⟩

/-- With the line active but IFF1 clear, and with IFF1 set but the line inactive. -/
theorem test_hyp_HaltedStepOnlyRefreshes : (demoHalted.fetching = none ∧ demoHalted.halted = true ∧ demoHalted.nmiPending = false ∧
      ¬IntDue { demoHalted with intLine := true }) ∧ ¬IntDue { demoHalted with iff1 := true } := by unfold IntDue; decide

theorem test_hyp_HaltWithoutInterruptsLasts : demoHalted.fetching = none ∧ demoHalted.halted = true ∧ demoHalted.nmiPending = false ∧
    demoHalted.iff1 = false := by decide

theorem test_hyp_RetnRestoresAfterNmi : Memory.wf demoNmi.mem ∧ demoNmi.fetching = none ∧ demoNmi.nmiPending = true ∧
    demoNmi.isRam (demoNmi.sp - 1) = true ∧ demoNmi.isRam (demoNmi.sp - 2) = true ∧ ∃ t, step demoNmi = .next t :=
  ⟨by decide, rfl, rfl, by decide, by decide, _, rfl⟩

/-- A store: the byte it writes, and an address next to it that it does not write. -/
theorem test_hyp_MemoryChangesOnlyWhereStored : (∃ t, exec (.ldHlN 0x55) demo = .next t) ∧
    answers (exec (.ldHlN 0x55) demo) (fun t => memRead t.mem 0x4000 == 0x55) = true ∧
    ∀ w ∈ storesTo demo (.ldHlN 0x55), w.toNat ≠ 0x4001 := by
  refine ⟨⟨_, rfl⟩, by decide, fun w hw => ?_⟩
  rw [List.mem_singleton.mp (show w ∈ [demo.regs.hl] from hw)]
  decide

/-- An instruction outside every list of writers, and one inside each of two. -/
theorem test_hyp_SpecialRegistersHaveTheirWriters : (∃ t, exec .nop demo = .next t) ∧
    (Instr.nop ≠ .exAfAf ∧ Instr.nop ≠ .exx ∧ Instr.nop ≠ .ldIA ∧ Instr.nop ≠ .ldRA ∧ Instr.nop ≠ .halt ∧ Instr.nop ≠ .ei ∧
      Instr.nop ∉ [Instr.di, .ei, .reti, .retn]) ∧ (∀ m, Instr.nop ≠ .imM m) ∧
    ∃ t, exec .retn demo = .next t :=
  ⟨⟨_, rfl⟩, by decide, (fun _ h => nomatch h), _, rfl⟩

theorem test_hyp_StepsLeaveHostInputsAlone : (∃ t, step (demoInt .im1 0) = .next t) ∧ IntDue (demoInt .im1 0) ∧
    (∃ t, step demoNmi = .next t) ∧ demoNmi.fetching = none ∧ demoNmi.nmiPending = true ∧ demoNmi.params.resetRegs = .draw :=
  ⟨⟨_, rfl⟩, by unfold IntDue; decide, ⟨_, rfl⟩, rfl, rfl, rfl⟩

/-- From a boundary, from a halted boundary, and from the middle of a fetch phase. -/
theorem test_hyp_StepKeepsInvariant : (Inv demo ∧ ∃ t, step demo = .next t) ∧ (Inv demoHalted ∧ ∃ t, step demoHalted = .next t) ∧
    Inv { demo with fetching := some (.idx .ix) } ∧ ∃ t, step { demo with fetching := some (.idx .ix) } = .next t :=
  ⟨⟨⟨demo_wf, by decide⟩, _, rfl⟩, ⟨⟨by decide, by decide⟩, _, rfl⟩, ⟨demo_wf, by decide⟩, _, rfl⟩

theorem test_hyp_ResetMeetsInvariant : Inv demo := ⟨demo_wf, by decide⟩

/-- Well-formed instructions of one and of four bytes, and of each of the three checks. -/
theorem test_hyp_DecodeAfterEncode : (Instr.nop.wf = true ∧ nextContext .nop = none) ∧
    ((Instr.ldXdN .iy 0xFF 0xFF).wf = true ∧ nextContext (.ldXdN .iy 0xFF 0xFF) = none) ∧
    ((Instr.ldXh .ix .xh .xl).wf = true ∧ nextContext (.ldXh .ix .xh .xl) = none) ∧
    ((Instr.edUndefined 0xFF).wf = true ∧ nextContext (.edUndefined 0xFF) = none) := by decide

/-- A row of each number of fetch units. -/
theorem test_hyp_PrefixMovesRoundTrip : ((Instr.prefixCB).wf = true ∧ unitCount (encode .prefixCB) = 1) ∧
    ((Instr.ignoredPrefix .iy 0xFF).wf = true ∧ unitCount (encode (.ignoredPrefix .iy 0xFF)) = 2) ∧
    ((Instr.prefixIdxCB .ix 0x80).wf = true ∧ unitCount (encode (.prefixIdxCB .ix 0x80)) = 2) ∧
    (Instr.rlcXd .ix 0xCB).wf = true ∧ unitCount (encode (.rlcXd .ix 0xCB)) = 3 := by decide

/-- No overridden byte, and two of them before an ED byte; exactly three bytes after. -/
theorem test_hyp_DecodingIsTotal : ((∀ p ∈ ([] : List Byte), p = 0xDD ∨ p = 0xFD) ∧ (0x00 : Byte) ≠ 0xDD ∧ (0x00 : Byte) ≠ 0xFD) ∧
    (∀ p ∈ [(0xDD : Byte), 0xFD], p = 0xDD ∨ p = 0xFD) ∧ (0xED : Byte) ≠ 0xDD ∧ (0xED : Byte) ≠ 0xFD ∧
    3 ≤ [(0x43 : Byte), 0x00, 0x80].length := by decide

/-- `DD FD 21 00 10` at the top of memory: it wraps to address 0, under DRAW. -/
theorem test_hyp_StepRunsTheDecodedInstruction :
    let bs : List Byte := [0xDD, 0xFD, 0x21, 0x00, 0x10]
    let s : State := { State.reset.withRam 0 0xFFFF [] with pc := 0xFFFE, mem := memLoad [] 0xFFFE bs }
    s.fetching = none ∧ s.nmiPending = false ∧ ¬IntDue s ∧ s.halted = false ∧ bs.length ≤ 65536 ∧
      (∀ (k : Nat) (hk : k < bs.length),
        s.isRam (s.pc + BitVec.ofNat 16 k) = true ∧ memRead s.mem (s.pc + BitVec.ofNat 16 k).toNat = bs[k]) ∧
      decode bs = .ok (.ldIxyNn .iy 0x1000, []) ∧ s.params.resetRegs = .draw := by
  refine ⟨rfl, rfl, ?_, rfl, by decide, ?_, rfl, rfl⟩
  · unfold IntDue
    decide
  · decide

/-- The same under FAULT_ON_READ: ADC A,0 with the carry unwritten, and XOR A, which reads nothing unwritten. -/
theorem test_hyp_StepRunsTheDecodedInstruction_faultOnRead :
    let adc : State := { faultOnRead [(0x0000, 0xCE)] with unwritten := [.flag .c] }
    let xor : State := faultOnRead [(0x0000, 0xAF)]
    (¬IntDue adc ∧ decode [0xCE, 0x00] = .ok (.adcAN 0x00, []) ∧ adc.params.resetRegs = .faultOnRead ∧
      (∀ k < 2, adc.isRam (BitVec.ofNat 16 k) = true ∧ memRead adc.mem k = [(0xCE : Byte), 0x00].getD k 0) ∧
      ((Instr.adcAN 0x00).reads adc).find? (fun n => decide (n ∈ adc.unwritten)) = some (.flag .c)) ∧
    ¬IntDue xor ∧ decode [0xAF] = .ok (.xorS (.reg .a), []) ∧ xor.params.resetRegs = .faultOnRead ∧ xor.isRam 0 = true ∧
      memRead xor.mem 0 = 0xAF ∧ ((Instr.xorS (.reg .a)).reads xor).find? (fun n => decide (n ∈ xor.unwritten)) = none := by
  unfold IntDue
  decide

/-- Every address from n on, k of them, holding 0xDD. -/
def ddCells : Nat → Nat → List Host.Cell
  | _, 0 => []
  | n, k + 1 => (n, 0xDD) :: ddCells (n + 1) k

theorem memRead_ddCells (k n a : Nat) (h1 : n ≤ a) (h2 : a < n + k) : memRead (ddCells n k) a = 0xDD := by
  induction k generalizing n with
  | zero => omega
  | succ k ih =>
    simp only [ddCells, memRead]
    split
    · rfl
    · exact ih (n + 1) (by omega) (by omega)

/-- All of memory plain RAM holding 0xDD. -/
def ddState : State := { State.reset.withRam 0 0xFFFF [] with mem := ddCells 0 65536 }

theorem ddState_memory (a : Word) : ddState.isRam a = true ∧ (memRead ddState.mem a.toNat = 0xDD ∨ memRead ddState.mem a.toNat = 0xFD) := by
  refine ⟨?_, .inl (memRead_ddCells 65536 0 a.toNat (by omega) (by simpa using a.isLt))⟩
  have := a.isLt
  simp only [State.isRam, ddState, State.withRam, List.any_cons, Bool.or_eq_true, decide_eq_true_eq]
  exact .inl ⟨Nat.zero_le _, by simp; omega⟩

/-- From a boundary, and from the middle of a chain with an NMI pending. -/
theorem test_hyp_EndlessPrefixChainNeverCompletes :
    (ddState.fetching = none ∧ ddState.nmiPending = false ∧ ¬IntDue ddState ∧ ddState.halted = false ∧
      ∀ a : Word, ddState.isRam a = true ∧ (memRead ddState.mem a.toNat = 0xDD ∨ memRead ddState.mem a.toNat = 0xFD)) ∧
    let s : State := { ddState with fetching := some (.idx .iy), nmiPending := true }
    (∀ c, s.fetching = some c → ∃ x, c = .idx x) ∧
      ∀ a : Word, s.isRam a = true ∧ (memRead s.mem a.toNat = 0xDD ∨ memRead s.mem a.toNat = 0xFD) :=
  ⟨⟨rfl, rfl, fun h => absurd h.2.2.1 (by decide), rfl, ddState_memory⟩, fun _ h => ⟨.iy, by cases h; rfl⟩, ddState_memory⟩

end Sys2Proof.Tests
end

section
/-! PROOFS, 10_state. What an instruction does to the part of the machine that is no operand: the shadow set, I, R, the interrupt
registers, the fetch phase, the host's inputs and the parameters (10_state R103, R107, R108, R120-R126, R129). -/

namespace Sys2Proof.Machine

/-! ## Operand moves -/

/-- `t` came from `s` by operand moves alone: what may differ are the general registers, IX, IY, SP, PC, memory (its canonical form
kept, log 3), the outputs of the step and the number of free values used. -/
structure SameControl (s t : State) : Prop where
  shadow : t.shadow = s.shadow
  i : t.i = s.i
  r : t.r = s.r
  iff1 : t.iff1 = s.iff1
  iff2 : t.iff2 = s.iff2
  im : t.im = s.im
  halted : t.halted = s.halted
  intInhibit : t.intInhibit = s.intInhibit
  nmiPending : t.nmiPending = s.nmiPending
  intLine : t.intLine = s.intLine
  intData : t.intData = s.intData
  fetching : t.fetching = s.fetching
  ram : t.ram = s.ram
  ports : t.ports = s.ports
  params : t.params = s.params
  unwritten : t.unwritten = s.unwritten
  mem_wf : Memory.wf s.mem → Memory.wf t.mem

namespace SameControl

variable {s t : State}

theorem refl : SameControl s s := ⟨rfl, rfl, rfl, rfl, rfl, rfl, rfl, rfl, rfl, rfl, rfl, rfl, rfl, rfl, rfl, rfl, id⟩

theorem setRegs (h : SameControl s t) {v : RegFile} : SameControl s (t.setRegs v) := { h with }
theorem setIx (h : SameControl s t) {v : Word} : SameControl s (t.setIx v) := { h with }
theorem setIy (h : SameControl s t) {v : Word} : SameControl s (t.setIy v) := { h with }
theorem setSp (h : SameControl s t) {v : Word} : SameControl s (t.setSp v) := { h with }
theorem setPc (h : SameControl s t) {v : Word} : SameControl s (t.setPc v) := { h with }
theorem setDraws (h : SameControl s t) {n : Nat} : SameControl s (t.setDraws n) := { h with }
theorem emit (h : SameControl s t) {e : Event} : SameControl s (t.emit e) := { h with }
theorem tick (h : SameControl s t) {n : Nat} : SameControl s (t.tick n) := { h with }

/-! A register that is written on both sides keeps the two states alike in the others. -/

theorem setShadow (h : SameControl s t) {v : RegFile} : SameControl (s.setShadow v) (t.setShadow v) := { h with shadow := rfl }
theorem setIff1 (h : SameControl s t) {v : Bool} : SameControl (s.setIff1 v) (t.setIff1 v) := { h with iff1 := rfl }

/-! The registers named by an operand field -/

theorem setIdx (h : SameControl s t) {x : Idx} {v : Word} : SameControl s (t.setIdx x v) := by
  cases x
  · exact h.setIx
  · exact h.setIy

theorem setHalf (h : SameControl s t) {x : Idx} {k : Half} {v : Byte} : SameControl s (t.setHalf x k v) := by
  cases k <;> exact h.setIdx

theorem setRegX (h : SameControl s t) {x : Idx} {r : RegX} {v : Byte} : SameControl s (t.setRegX x r v) := by
  cases r with
  | xh => exact h.setHalf (k := .high)
  | xl => exact h.setHalf (k := .low)
  | b | c | d | e | a => exact h.setRegs

theorem setPair (h : SameControl s t) {p : Pair} {v : Word} : SameControl s (t.setPair p v) := by
  cases p with
  | sp => exact h.setSp
  | bc | de | hl => exact h.setRegs

theorem setPairQ (h : SameControl s t) {q : PairQ} {v : Word} : SameControl s (t.setPairQ q v) := by
  cases q <;> exact h.setRegs

/-! Memory, the stack and ports -/

theorem readDone (h : SameControl s t) {a : Word} : SameControl s (t.readDone a) := by
  rw [State.readDone_eq]
  exact { h with }

theorem readDone2 (h : SameControl s t) {a : Word} : SameControl s (t.readDone2 a) := h.readDone.readDone

theorem store (h : SameControl s t) {a : Word} {v : Byte} : SameControl s (t.store a v) := by
  rw [State.store_eq]
  exact { h with mem_wf := fun hm => t.ramWrite_wf (h.mem_wf hm) a v }

theorem store2 (h : SameControl s t) {a v : Word} : SameControl s (t.store2 a v) := h.store.store

theorem rmw (h : SameControl s t) {a : Word} {w : Byte} : SameControl s (t.rmw a w) := h.readDone.store

theorem push (h : SameControl s t) {v : Word} : SameControl s (t.push v) := h.setSp.store.setSp.store

theorem popDone (h : SameControl s t) : SameControl s t.popDone := h.readDone2.setSp

theorem popPc (h : SameControl s t) : SameControl s t.popPc := h.popDone.setPc

theorem exSp (h : SameControl s t) {v : Word} : SameControl s (t.exSp v) := h.readDone2.store.store

theorem inDone (h : SameControl s t) {p : Word} : SameControl s (t.inDone p) := h.setDraws.emit

theorem mReadDone (h : SameControl s t) {m : RegM} : SameControl s (t.mReadDone m) := by
  cases m
  · exact h
  · exact h.readDone

theorem mWrite (h : SameControl s t) {m : RegM} {v : Byte} : SameControl s (t.mWrite m v) := by
  cases m
  · exact h.setRegs
  · exact h.store

/-! The shared bodies of the instructions -/

theorem aluM {op : AluOp} {m : RegM} : SameControl s (s.aluM op m) := refl.mReadDone.setRegs.tick
theorem aluN {op : AluOp} {n : Byte} : SameControl s (s.aluN op n) := refl.setRegs.tick
theorem aluXh {op : AluOp} {x : Idx} {k : Half} : SameControl s (s.aluXh op x k) := refl.setRegs.tick
theorem aluXd {op : AluOp} {x : Idx} {d : Byte} : SameControl s (s.aluXd op x d) := refl.readDone.setRegs.tick

theorem rotM {op : RotOp} {m : RegM} : SameControl s (s.rotM op m) := refl.mReadDone.mWrite.setRegs.tick
theorem rotXd {op : RotOp} {x : Idx} {d : Byte} : SameControl s (s.rotXd op x d) := refl.rmw.setRegs.tick
theorem rotXdR {op : RotOp} {x : Idx} {d : Byte} {r : Reg8} : SameControl s (s.rotXdR op x d r) := rotXd.setRegs

theorem scfDrawn : SameControl s s.scfDrawn := by
  unfold State.scfDrawn
  split
  · exact refl
  · exact refl.setDraws

theorem ldAFromIr {v : Byte} : SameControl s (s.ldAFromIr v) := by
  unfold State.ldAFromIr
  split
  · exact refl.setDraws.setRegs
  · exact refl.setRegs

theorem ldUnit {k : Dir} : SameControl s (s.ldUnit k) := refl.readDone.store.setRegs
theorem cpUnit {k : Dir} : SameControl s (s.cpUnit k) := refl.readDone.setRegs
theorem inUnit {k : Dir} : SameControl s (s.inUnit k) := refl.inDone.store.setRegs
theorem outUnit {k : Dir} : SameControl s (s.outUnit k) := refl.readDone.emit.setRegs

theorem repeatYX (h : SameControl s t) : SameControl s t.repeatYX := by
  unfold State.repeatYX
  split
  · exact h
  · exact h.setDraws.setRegs

theorem repeatYXHP (h : SameControl s t) : SameControl s t.repeatYXHP := by
  unfold State.repeatYXHP
  split
  · exact h
  · exact h.setDraws.setRegs

theorem repeatAgain (h : SameControl s t) : SameControl s t.repeatAgain := h.setPc.tick

theorem ldRepeat (h : SameControl s t) : SameControl s t.ldRepeat := by
  unfold State.ldRepeat
  split
  · exact h.tick
  · exact h.repeatYX.repeatAgain

theorem cpRepeat (h : SameControl s t) : SameControl s t.cpRepeat := by
  unfold State.cpRepeat
  split
  · exact h.tick
  · exact h.repeatYX.repeatAgain

theorem ioRepeat (h : SameControl s t) : SameControl s t.ioRepeat := by
  unfold State.ioRepeat
  split
  · exact h.tick
  · exact h.repeatYXHP.repeatAgain

end SameControl

/-! ## What an instruction does besides -/

/-- The effects of an instruction on what operand moves leave alone: each line names a writer of a special register (10_state R103, R107,
R108, R120-R124) or a move of the fetch phase (R125). -/
def State.control (s : State) : Instr → State
  | .exAfAf => s.setShadow { s.shadow with a := s.regs.a, f := s.regs.f }
  | .exx => s.setShadow { s.regs with a := s.shadow.a, f := s.shadow.f }
  | .ldIA => s.setI s.regs.a
  | .ldRA => s.setR s.regs.a
  | .imM m => s.setIm m
  | .di => (s.setIff1 false).setIff2 false
  | .ei => ((s.setIff1 true).setIff2 true).setInhibit .ei
  | .reti => s.setIff1 (if s.params.retiRestoresIff then s.iff2 else s.iff1)
  | .retn => s.setIff1 s.iff2
  | .halt => s.setHalted true
  | .prefixCB => s.setFetching (some .cb)
  | .prefixED => s.setFetching (some .ed)
  | .prefixIdx x => s.setFetching (some (.idx x))
  | .prefixIdxCB x d => s.setFetching (some (.idxCb x d))
  | .overriddenByIdx _ x2 => s.setFetching (some (.idx x2))
  | .overriddenByEd _ => s.setFetching (some .ed)
  | .ignoredPrefix _ _ => s.setFetching (some .plain)
  | _ => s

/-- The result is a next state that came from `s` by operand moves alone. -/
def MovesFrom (s : State) (r : Result) : Prop := ∃ t, r = .next t ∧ SameControl s t

theorem MovesFrom.next {s t : State} (h : SameControl s t) : MovesFrom s (.next t) := ⟨t, rfl, h⟩

theorem MovesFrom.ite {s : State} {p : Prop} [Decidable p] {a b : Result} (ha : MovesFrom s a) (hb : MovesFrom s b) :
    MovesFrom s (if p then a else b) := by
  split
  · exact ha
  · exact hb

open SameControl in
/-- Every instruction goes on, and does what `State.control` names and operand moves. -/
theorem exec_movesFrom_control (i : Instr) (s : State) : MovesFrom (s.control i) (exec i s) := by
  cases i with
  -- 40_load_exchange
  | ldRR | ldRN => exact .next refl.setRegs.tick
  | ldRHl | ldRXd | ldABc | ldADe | ldANn => exact .next refl.readDone.setRegs.tick
  | ldHlR | ldXdR | ldHlN | ldXdN | ldBcA | ldDeA | ldNnA => exact .next refl.store.tick
  | ldAI | ldAR => exact .next ldAFromIr.tick
  | ldIA | ldRA => exact .next refl.tick
  | ldXh => exact .next refl.setRegX.tick
  | ldXhN => exact .next refl.setHalf.tick
  | ldDdNn => exact .next refl.setPair.tick
  | ldIxyNn => exact .next refl.setIdx.tick
  | ldHlInd => exact .next refl.readDone2.setRegs.tick
  | ldIxyInd => exact .next refl.readDone2.setIdx.tick
  | ldDdInd => exact .next refl.readDone2.setPair.tick
  | ldNnHl | ldNnIxy | ldNnDd => exact .next refl.store2.tick
  | ldSpHl | ldSpIxy => exact .next refl.setSp.tick
  | pushQq | pushIxy => exact .next refl.push.tick
  | popQq => exact .next refl.popDone.setPairQ.tick
  | popIxy => exact .next refl.popDone.setIdx.tick
  | exDeHl => exact .next refl.setRegs.setRegs.tick
  | exAfAf | exx => exact .next refl.setRegs.setShadow.tick
  | exSpHl => exact .next refl.exSp.setRegs.tick
  | exSpIxy => exact .next refl.exSp.setIdx.tick
  -- 41_alu8
  | addAS | adcAS | subS | sbcAS | andS | xorS | orS | cpS => exact .next aluM
  | addAN | adcAN | subN | sbcAN | andN | xorN | orN | cpN => exact .next aluN
  | addAXh | adcAXh | subXh | sbcAXh | andXh | xorXh | orXh | cpXh => exact .next aluXh
  | addAXd | adcAXd | subXd | sbcAXd | andXd | xorXd | orXd | cpXd => exact .next aluXd
  | incR | decR => exact .next refl.setRegs.setRegs.tick
  | incHl | decHl | incXd | decXd => exact .next refl.rmw.setRegs.tick
  | incXh | decXh => exact .next refl.setHalf.setRegs.tick
  | daa | cpl | neg => exact .next refl.setRegs.tick
  | ccf | scf => exact .next scfDrawn.setRegs.tick
  -- 42_alu16
  | addHlSs | adcHlSs | sbcHlSs => exact .next refl.setRegs.setRegs.tick
  | addIxyPp => exact .next refl.setIdx.setRegs.tick
  | incSs | decSs => exact .next refl.setPair.tick
  | incIxy | decIxy => exact .next refl.setIdx.tick
  -- 43_block
  | ldi | ldd => exact .next ldUnit.tick
  | ldir | lddr => exact .next ldUnit.ldRepeat
  | cpi | cpd => exact .next cpUnit.tick
  | cpir | cpdr => exact .next cpUnit.cpRepeat
  | ini | ind => exact .next inUnit.tick
  | inir | indr => exact .next inUnit.ioRepeat
  | outi | outd => exact .next outUnit.tick
  | otir | otdr => exact .next outUnit.ioRepeat
  -- 44_rotate_shift
  | rlca | rla | rrca | rra => exact .next refl.setRegs.tick
  | rlcM | rrcM | rlM | rrM | slaM | sraM | sllM | srlM => exact .next rotM
  | rlcXd | rrcXd | rlXd | rrXd | slaXd | sraXd | sllXd | srlXd => exact .next rotXd
  | rlcXdR | rrcXdR | rlXdR | rrXdR | slaXdR | sraXdR | sllXdR | srlXdR => exact .next rotXdR
  | rld | rrd => exact .next refl.rmw.setRegs.tick
  -- 45_bit
  | bitBR => exact .next refl.setRegs.tick
  | bitBHl | bitBXd =>
    simp only [exec, execBitBHl, execBitBXd]
    split
    · exact .next refl.readDone.setRegs.tick
    · exact .next refl.readDone.setDraws.setRegs.tick
  | setBR | resBR => exact .next refl.setRegs.tick
  | setBHl | resBHl | setBXd | resBXd => exact .next refl.rmw.tick
  | setBXdR | resBXdR => exact .next refl.rmw.setRegs.tick
  -- 46_jump_call_return
  | jpNn | jr | jpHl | jpIxy => exact .next refl.setPc.tick
  | jpCcNn | jrCc => exact .ite (.next refl.setPc.tick) (.next refl.tick)
  | djnz => exact .ite (.next refl.setRegs.tick) (.next refl.setRegs.setPc.tick)
  | callNn | rst => exact .next refl.push.setPc.tick
  | callCcNn => exact .ite (.next refl.push.setPc.tick) (.next refl.tick)
  | ret => exact .next refl.popPc.tick
  | retCc => exact .ite (.next refl.popPc.tick) (.next refl.tick)
  | retn => exact .next refl.popPc.setIff1.tick
  | reti =>
    simp only [exec, execReti, State.returnInt, State.control]
    split
    · exact .next refl.popPc.setIff1.emit.tick
    · exact (.next refl.popPc.emit.tick : MovesFrom s _)
  -- 47_cpu_control
  | nop | halt | di | ei | imM | edUndefined => exact .next refl.tick
  | prefixCB | prefixED | prefixIdx | prefixIdxCB => exact .next refl
  | overriddenByIdx | overriddenByEd | ignoredPrefix => exact .next refl.tick
  -- 48_io
  | inAN | inFC => exact .next refl.inDone.setRegs.tick
  | inRC => exact .next refl.inDone.setRegs.setRegs.tick
  | outNA | outCR | outC0 => exact .next refl.emit.tick

end Sys2Proof.Machine
end

section
/-! PROOFS, 10_state. The writers of the special registers, read off `State.control` (10_state R103, R107, R108, R120-R126, R130). -/

namespace Sys2Proof.Machine

/-! ## What `State.control` leaves alone -/

/-- The shadow set, I, R, the interrupt registers and the fetch phase are all that `State.control` changes. -/
theorem State.control_frame (s : State) (i : Instr) :
    s.control i = { s with
      shadow := (s.control i).shadow, i := (s.control i).i, r := (s.control i).r, iff1 := (s.control i).iff1, iff2 := (s.control i).iff2
      im := (s.control i).im, halted := (s.control i).halted, intInhibit := (s.control i).intInhibit
      fetching := (s.control i).fetching } := by
  unfold State.control
  split <;> rfl

section
variable (s : State) (i : Instr)

@[simp] theorem State.control_nmiPending : (s.control i).nmiPending = s.nmiPending := by rw [control_frame]
@[simp] theorem State.control_intLine : (s.control i).intLine = s.intLine := by rw [control_frame]
@[simp] theorem State.control_intData : (s.control i).intData = s.intData := by rw [control_frame]
@[simp] theorem State.control_mem : (s.control i).mem = s.mem := by rw [control_frame]
@[simp] theorem State.control_ram : (s.control i).ram = s.ram := by rw [control_frame]
@[simp] theorem State.control_ports : (s.control i).ports = s.ports := by rw [control_frame]
@[simp] theorem State.control_params : (s.control i).params = s.params := by rw [control_frame]
@[simp] theorem State.control_unwritten : (s.control i).unwritten = s.unwritten := by rw [control_frame]

end

/-! ## The writers -/

section
variable (s : State) {i : Instr}

theorem State.control_shadow (h : i ≠ .exAfAf) (h' : i ≠ .exx) : (s.control i).shadow = s.shadow := by
  unfold State.control
  split <;> simp_all

theorem State.control_i (h : i ≠ .ldIA) : (s.control i).i = s.i := by
  unfold State.control
  split <;> simp_all

theorem State.control_r (h : i ≠ .ldRA) : (s.control i).r = s.r := by
  unfold State.control
  split <;> simp_all

theorem State.control_im (h : ∀ m, i ≠ .imM m) : (s.control i).im = s.im := by
  unfold State.control
  split <;> simp_all

theorem State.control_iff1 (h : i ∉ [Instr.di, .ei, .reti, .retn]) : (s.control i).iff1 = s.iff1 := by
  unfold State.control
  split <;> simp_all

theorem State.control_iff2 (h : i ∉ [Instr.di, .ei]) : (s.control i).iff2 = s.iff2 := by
  unfold State.control
  split <;> simp_all

theorem State.control_halted (h : i ≠ .halt) : (s.control i).halted = s.halted := by
  unfold State.control
  split <;> simp_all

theorem State.control_intInhibit (h : i ≠ .ei) : (s.control i).intInhibit = s.intInhibit := by
  unfold State.control
  split <;> simp_all

/-- HALT ends its fetch phase: what leaves a fetch phase unfinished does not halt. -/
theorem State.control_halted_of_fetching (hs : s.fetching = none) (h : (s.control i).fetching ≠ none) :
    (s.control i).halted = s.halted := by
  refine s.control_halted fun hi => h ?_
  rw [hi]
  exact hs

end

/-- An instruction that goes on. -/
theorem exec_next {i : Instr} {s t : State} (h : exec i s = .next t) : SameControl (s.control i) t := by
  obtain ⟨u, hu, hc⟩ := exec_movesFrom_control i s
  rw [hu] at h
  cases h
  exact hc

/-- Settles O51: each special register is written where `State.control` says. -/
theorem specialRegistersHaveTheirWriters : Obligations.SpecialRegistersHaveTheirWriters := by
  intro i s t h
  have hc := exec_next h
  exact ⟨fun h1 h2 => hc.shadow.trans (s.control_shadow h1 h2), fun h => hc.i.trans (s.control_i h),
    fun h => hc.r.trans (s.control_r h), fun h => hc.im.trans (s.control_im h), fun h => hc.iff1.trans (s.control_iff1 h),
    fun h => hc.iff2.trans (s.control_iff2 h), fun h => hc.halted.trans (s.control_halted h),
    fun h => hc.intInhibit.trans (s.control_intInhibit h), hc.nmiPending.trans (by simp), hc.intLine.trans (by simp),
    hc.intData.trans (by simp), hc.ram.trans (by simp), hc.ports.trans (by simp), hc.params.trans (by simp),
    hc.unwritten.trans (by simp)⟩

end Sys2Proof.Machine
end

section
/-! PROOFS, 10_state. What a step that goes on can do, and what every step keeps: the invariant of logs 3 and 9, the host's inputs and
the parameters (10_state R126, R129, 60_exceptions R1450). -/

namespace Sys2Proof.Machine

open Sys2Proof.Claims

/-! ## The parts of a step -/

/-- The fetch of a unit changes PC, R, the events and the free values used, and ends the fetch phase. -/
theorem State.fetchUnit_frame (s : State) (c : Context) :
    s.fetchUnit c = { s with
      pc := (s.fetchUnit c).pc, r := (s.fetchUnit c).r, draws := (s.fetchUnit c).draws, events := (s.fetchUnit c).events
      fetching := none } := by
  unfold State.fetchUnit State.fetchLen
  split
  · rfl
  · obtain ⟨d, ev, h, -⟩ := State.fetchBytes_frame ‹Nat› (s.fetchFirst c)
    rw [h]
    unfold State.fetchFirst
    split
    · rw [State.fetchOpcode_eq]; rfl
    · rw [State.fetchByte_eq]; rfl

/-- An instruction with its bookkeeping is a checked read before a next state (10_state R130). -/
theorem runInstr_eq (i : Instr) (s : State) :
    ∃ t, SameControl (s.control i) t ∧ exec i s = .next t ∧ runInstr i s = checkReads s (i.reads s) (.next (t.markWritten i)) := by
  obtain ⟨t, ht, hc⟩ := exec_movesFrom_control i s
  exact ⟨t, hc, ht, by simp only [runInstr, ht]⟩

/-- A checked read that goes on. -/
theorem checkReads_next {s t : State} {l : List RegName} {r : Result} (h : checkReads s l r = .next t) : r = .next t := by
  rcases checkReads_cases s l r with ⟨-, hr⟩ | ⟨n, -, hr⟩
  · exact hr ▸ h
  · rw [hr] at h
    cases h

/-- `t` is `s` after an acceptance: the effects every kind shares (60_exceptions R1320), and a new PC. -/
def AcceptedFrom (s t : State) : Prop :=
  ∃ k pc draws ev cyc, t = { s.acceptPush k with pc := pc, draws := draws, events := ev, cycles := cyc }

theorem acceptNmi_next {s t : State} (h : acceptNmi s = .next t) : AcceptedFrom s t := by
  cases checkReads_next h
  exact ⟨.nmi, _, _, _, _, rfl⟩

/-- An IM0 acceptance is refused, or checks SP and goes on (60_exceptions R1325). -/
theorem acceptInt_cases (s : State) :
    ((s.im = .im0 ∧ s.intData &&& 0xC7 ≠ 0xC7) ∧ acceptInt s = .refused .im0NotRst) ∨
      ¬(s.im = .im0 ∧ s.intData &&& 0xC7 ≠ 0xC7) ∧ ∃ t, AcceptedFrom s t ∧ acceptInt s = checkReads s [.sp] (.next t) := by
  unfold acceptInt
  cases him : s.im with
  | im0 =>
    by_cases hd : s.intData &&& 0xC7 = 0xC7
    · exact .inr ⟨fun h => h.2 hd, _, ⟨.im0, _, _, _, _, rfl⟩, if_pos hd⟩
    · exact .inl ⟨⟨rfl, hd⟩, if_neg hd⟩
  | im1 => exact .inr ⟨by simp, _, ⟨.im1, _, _, _, _, rfl⟩, rfl⟩
  | im2 =>
    refine .inr ⟨by simp, _, ?_, rfl⟩
    rw [State.readDone2_eq]
    exact ⟨.im2, _, _, _, _, rfl⟩

theorem acceptInt_next {s t : State} (h : acceptInt s = .next t) : AcceptedFrom s t := by
  rcases acceptInt_cases s with ⟨-, hr⟩ | ⟨-, u, hu, hr⟩ <;> rw [hr] at h
  · cases h
  · cases checkReads_next h
    exact hu

/-- At a boundary without an NMI, R1312 is what `intAccepted` tests. -/
theorem intAccepted_iff {s : State} (hf : s.fetching = none) (hn : s.nmiPending = false) : s.intAccepted = true ↔ IntDue s := by
  simp [State.intAccepted, IntDue, hf, hn, and_assoc]

theorem not_intDue {s : State} (hf : s.fetching = none) (hn : s.nmiPending = false) (ha : s.intAccepted = false) : ¬IntDue s := by
  simp [← intAccepted_iff hf hn, ha]

/-- A step that goes on resumes a fetch phase, or accepts an interrupt, or is a halted step, or begins a fetch phase
(60_exceptions R1310). -/
theorem step_next_cases {s t : State} (h : step s = .next t) :
    (s.fetching ≠ none ∧ runUnits Config.maxUnits s = .next t) ∨
      (s.fetching = none ∧ AcceptedFrom s.beginStep t) ∨
      (s.fetching = none ∧ s.nmiPending = false ∧ ¬IntDue s ∧ t = s.beginStep.refresh.tick 4) ∨
      (s.fetching = none ∧ s.nmiPending = false ∧ ¬IntDue s ∧ s.halted = false ∧
        runUnits Config.maxUnits (s.beginStep.setFetching (some .plain)) = .next t) := by
  rcases step_cases s with ⟨c, hc, hs⟩ | ⟨hf, hn, hs⟩ | ⟨hf, hn, ha, hs⟩ | ⟨hf, hn, ha, hh, hs⟩ | ⟨hf, hn, ha, hh, hs⟩ <;>
    rw [hs] at h
  · exact .inl ⟨by simp [hc], h⟩
  · exact .inr (.inl ⟨hf, acceptNmi_next h⟩)
  · exact .inr (.inl ⟨hf, acceptInt_next h⟩)
  · cases h
    exact .inr (.inr (.inl ⟨hf, hn, not_intDue hf hn ha, rfl⟩))
  · exact .inr (.inr (.inr ⟨hf, hn, not_intDue hf hn ha, hh, h⟩))

/-! ## The invariant -/

/-- One fetch unit and its instruction keep the invariant. -/
theorem fetchUnit_keeps_inv {s t : State} {c : Context} (hs : Inv s) (hc : s.fetching = some c)
    (h : runInstr (s.unitAt c).instr (s.fetchUnit c) = .next t) : Inv t := by
  obtain ⟨hm, hh⟩ := hs
  obtain ⟨-, u, hu, rfl⟩ := runInstr_next h
  have hk := exec_next hu
  have hf := s.fetchUnit_frame c
  rw [State.markWritten_eq]
  refine ⟨hk.mem_wf ?_, fun hne => hk.halted.trans ?_⟩
  · rw [State.control_mem, hf]
    exact hm
  · rw [State.control_halted_of_fetching _ (by rw [hf]) (by rw [← hk.fetching]; exact hne), hf]
    exact hh (by simp [hc])

theorem runUnits_keeps_inv {n : Nat} {s t : State} (hs : Inv s) (h : runUnits n s = .next t) : Inv t :=
  runUnits_induction (P := Inv) (fun _ _ _ hs hc h => fetchUnit_keeps_inv hs hc h) n s t hs h

/-- An acceptance pushes PC and stays at the boundary. -/
theorem AcceptedFrom.keeps_inv {s t : State} (ha : AcceptedFrom s t) (hm : Memory.wf s.mem) (hf : s.fetching = none) : Inv t := by
  obtain ⟨k, _, _, _, _, rfl⟩ := ha
  rw [State.acceptPush_eq]
  exact ⟨s.ramWrite_wf (s.ramWrite_wf hm _ _) _ _, fun hne => absurd hf hne⟩

/-- Settles O53: a fetch phase keeps the invariant unit by unit, and begins unhalted; the other steps stay at the boundary. -/
theorem stepKeepsInvariant : Obligations.StepKeepsInvariant := by
  intro s t hs h
  rcases step_next_cases h with ⟨-, hr⟩ | ⟨hf, ha⟩ | ⟨hf, -, -, rfl⟩ | ⟨-, -, -, hh, hr⟩
  · exact runUnits_keeps_inv hs hr
  · exact ha.keeps_inv hs.1 hf
  · exact ⟨hs.1, fun hne => absurd hf hne⟩
  · exact runUnits_keeps_inv (s := s.beginStep.setFetching (some .plain)) ⟨hs.1, fun _ => hh⟩ hr

/-! ## The host's inputs -/

/-- From `s` to `t` the host's inputs and the parameters are unchanged, the NMI latch is not set, and no register is marked unwritten;
under DRAW none is unmarked either (10_state R126, R129, R130). -/
structure KeepsHost (s t : State) : Prop where
  intLine : t.intLine = s.intLine
  intData : t.intData = s.intData
  ram : t.ram = s.ram
  ports : t.ports = s.ports
  params : t.params = s.params
  unwritten_draw : s.params.resetRegs = .draw → t.unwritten = s.unwritten
  unwritten_subset : t.unwritten ⊆ s.unwritten
  nmiPending : t.nmiPending = true → s.nmiPending = true

namespace KeepsHost

variable {s t u : State}

theorem refl : KeepsHost s s := ⟨rfl, rfl, rfl, rfl, rfl, fun _ => rfl, List.Subset.refl _, id⟩

theorem trans (h : KeepsHost s t) (h' : KeepsHost t u) : KeepsHost s u where
  intLine := h'.intLine.trans h.intLine
  intData := h'.intData.trans h.intData
  ram := h'.ram.trans h.ram
  ports := h'.ports.trans h.ports
  params := h'.params.trans h.params
  unwritten_draw hd := (h'.unwritten_draw (h.params ▸ hd)).trans (h.unwritten_draw hd)
  unwritten_subset := List.Subset.trans h'.unwritten_subset h.unwritten_subset
  nmiPending hn := h.nmiPending (h'.nmiPending hn)

theorem fetchUnit (c : Context) : KeepsHost s (s.fetchUnit c) := by
  rw [s.fetchUnit_frame c]
  exact { refl with }

theorem markWritten (i : Instr) : KeepsHost s (s.markWritten i) := by
  unfold State.markWritten
  split
  · exact refl
  · rename_i hp
    exact { refl with
      unwritten_draw := fun hd => by simp [hp] at hd
      unwritten_subset := List.filter_subset_self _ }

/-- An instruction does no more to these fields than unmark what it writes. -/
theorem of_sameControl {i : Instr} (h : SameControl (s.control i) t) : KeepsHost s t where
  intLine := by simpa using h.intLine
  intData := by simpa using h.intData
  ram := by simpa using h.ram
  ports := by simpa using h.ports
  params := by simpa using h.params
  unwritten_draw _ := by simpa using h.unwritten
  unwritten_subset := by simp [h.unwritten]
  nmiPending := by simp [h.nmiPending]

theorem runInstr {i : Instr} (h : runInstr i s = .next t) : KeepsHost s t := by
  obtain ⟨-, u, hu, rfl⟩ := runInstr_next h
  exact (of_sameControl (exec_next hu)).trans (markWritten i)

theorem runUnits {n : Nat} (h : runUnits n s = .next t) : KeepsHost s t :=
  runUnits_induction (P := KeepsHost s) (fun _ _ c hs _ h => (hs.trans (fetchUnit c)).trans (runInstr h)) n s t refl h

theorem accepted (h : AcceptedFrom s t) : KeepsHost s t := by
  obtain ⟨k, _, _, _, _, rfl⟩ := h
  rw [State.acceptPush_eq]
  exact { refl with nmiPending := by cases k <;> simp }

/-- Every step keeps them. -/
theorem step (h : step s = .next t) : KeepsHost s t := by
  have hb : KeepsHost s s.beginStep := { refl with }
  rcases step_next_cases h with ⟨-, hr⟩ | ⟨-, ha⟩ | ⟨-, -, -, rfl⟩ | ⟨-, -, -, -, hr⟩
  · exact runUnits hr
  · exact hb.trans (accepted ha)
  · exact { refl with }
  · exact KeepsHost.trans (t := s.beginStep.setFetching (some .plain)) { refl with } (runUnits hr)

end KeepsHost

/-- An acceptance changes no general register, nor the shadow set, I and IM (60_exceptions R1320). -/
theorem AcceptedFrom.keeps_registers {s t : State} (h : AcceptedFrom s t) :
    t.regs = s.regs ∧ t.shadow = s.shadow ∧ t.ix = s.ix ∧ t.iy = s.iy ∧ t.i = s.i ∧ t.im = s.im := by
  obtain ⟨k, _, _, _, _, rfl⟩ := h
  rw [State.acceptPush_eq]
  exact ⟨rfl, rfl, rfl, rfl, rfl, rfl⟩

/-- Settles O52: what every fetch unit and every acceptance keeps, every step keeps; with an interrupt due, the step is an acceptance. -/
theorem stepsLeaveHostInputsAlone : Obligations.StepsLeaveHostInputsAlone := by
  intro s t h
  have hk := KeepsHost.step h
  refine ⟨hk.intLine, hk.intData, hk.ram, hk.ports, hk.params, hk.unwritten_draw, hk.nmiPending, fun hf hdue => ?_⟩
  have hne : ¬(s.nmiPending = false ∧ ¬IntDue s) := fun ⟨hn, hd⟩ => by simp [hn, hd] at hdue
  rcases step_next_cases h with ⟨hf', -⟩ | ⟨-, ha⟩ | ⟨-, hn, hd, -⟩ | ⟨-, hn, hd, -⟩
  · exact absurd hf hf'
  · exact ha.keeps_registers
  · exact absurd ⟨hn, hd⟩ hne
  · exact absurd ⟨hn, hd⟩ hne

/-! ## The stops -/

/-- The result is a next state, or the fault of FAULT_ON_READ naming a register unwritten in `s` (10_state R130, 60_exceptions R1301). -/
def GoesOnOrFaults (s : State) (r : Result) : Prop :=
  (∃ t, r = .next t) ∨ ∃ n, r = .fault (.readBeforeWrite n) ∧ s.params.resetRegs = .faultOnRead ∧ n ∈ s.unwritten

namespace GoesOnOrFaults

variable {s t : State} {r : Result}

theorem not_refused (h : GoesOnOrFaults s r) (e : Refusal) : r ≠ .refused e := by
  rintro rfl
  rcases h with ⟨_, h⟩ | ⟨_, h, -⟩ <;> cases h

/-- A register unwritten later was unwritten before. -/
theorem of_keepsHost (hk : KeepsHost s t) (h : GoesOnOrFaults t r) : GoesOnOrFaults s r :=
  h.imp_right fun ⟨n, hr, hp, hn⟩ => ⟨n, hr, hk.params ▸ hp, hk.unwritten_subset hn⟩

theorem checkReads (s t : State) (l : List RegName) : GoesOnOrFaults s (checkReads s l (.next t)) := by
  rcases checkReads_cases s l (.next t) with ⟨-, hr⟩ | ⟨n, hn, hr⟩
  · exact .inl ⟨t, hr⟩
  · obtain ⟨hp, -, hu⟩ := State.unwrittenRead_some hn
    exact .inr ⟨n, hr, hp, hu⟩

theorem runInstr (i : Instr) (s : State) : GoesOnOrFaults s (runInstr i s) := by
  obtain ⟨t, -, -, h⟩ := runInstr_eq i s
  rw [h]
  exact checkReads s _ _

theorem runUnits (n : Nat) (s : State) : GoesOnOrFaults s (runUnits n s) := by
  induction n generalizing s with
  | zero => exact .inl ⟨s, rfl⟩
  | succ n ih =>
    unfold Machine.runUnits
    split
    · exact .inl ⟨s, rfl⟩
    · rename_i c hc
      have hu := of_keepsHost (KeepsHost.fetchUnit c) (runInstr (s.unitAt c).instr (s.fetchUnit c))
      split <;> rename_i hr
      · exact of_keepsHost ((KeepsHost.fetchUnit c).trans (KeepsHost.runInstr hr)) (ih _)
      · rwa [hr] at hu
      · exact absurd hr (hu.not_refused _)

end GoesOnOrFaults

/-- A step is refused at an IM0 acceptance of a byte that is no RST, and else goes on or faults (60_exceptions R1301, R1330). -/
theorem step_outcome (s : State) :
    ((IntDue s ∧ s.im = .im0 ∧ s.intData &&& 0xC7 ≠ 0xC7) ∧ step s = .refused .im0NotRst) ∨
      ¬(IntDue s ∧ s.im = .im0 ∧ s.intData &&& 0xC7 ≠ 0xC7) ∧ GoesOnOrFaults s (step s) := by
  have hb : KeepsHost s s.beginStep := { KeepsHost.refl with }
  have hfetch : KeepsHost s (s.beginStep.setFetching (some .plain)) := { KeepsHost.refl with }
  rcases step_cases s with ⟨c, hc, hs⟩ | ⟨hf, hn, hs⟩ | ⟨hf, hn, ha, hs⟩ | ⟨hf, hn, ha, hh, hs⟩ | ⟨hf, hn, ha, hh, hs⟩ <;> rw [hs]
  · exact .inr ⟨fun h => by simp [IntDue, hc] at h, .runUnits _ s⟩
  · exact .inr ⟨fun h => by simp [IntDue, hn] at h, .of_keepsHost hb (.checkReads _ _ _)⟩
  · have hd := (intAccepted_iff hf hn).mp ha
    rcases acceptInt_cases s.beginStep with ⟨h0, hr⟩ | ⟨h0, t, -, hr⟩ <;> rw [hr]
    · exact .inl ⟨⟨hd, h0⟩, rfl⟩
    · exact .inr ⟨fun h => h0 h.2, .of_keepsHost hb (.checkReads _ _ _)⟩
  · exact .inr ⟨fun h => not_intDue hf hn ha h.1, .inl ⟨_, rfl⟩⟩
  · exact .inr ⟨fun h => not_intDue hf hn ha h.1, .of_keepsHost hfetch (.runUnits _ _)⟩

/-- Settles O43: the two outcomes of `step_outcome` exclude each other. -/
theorem onlyNonRstInModeZeroIsRefused : Obligations.OnlyNonRstInModeZeroIsRefused := by
  intro s
  rcases step_outcome s with ⟨hd, hr⟩ | ⟨hd, hg⟩
  · exact ⟨iff_of_true hr hd, .inr (.inl hr)⟩
  · exact ⟨iff_of_false (hg.not_refused _) hd, hg.imp_right .inr⟩

end Sys2Proof.Machine
end

section
/-! PROOFS, 10_state R125 with 30_encoding R321-R332. What a fetch unit of the opcode maps is: how many bytes and opcode fetches it adds to
those of its context, and which of the bytes after it it depends on. -/

namespace Sys2Proof.Machine

open Sys2Proof.Claims

/-! ## The size of a unit -/

/-- The bytes of an instruction that are behind its last fetch unit (R321): its prefixes, and the displacement of a DD CB form. -/
def bytesBefore : Context → Nat
  | .plain => 0
  | .cb => 1
  | .ed => 1
  | .idx _ => 1
  | .idxCb _ _ => 3

/-- The opcode fetches among them (R332). -/
def m1Before : Context → Nat
  | .plain => 0
  | .cb => 1
  | .ed => 1
  | .idx _ => 1
  | .idxCb _ _ => 2

/-- The opcode fetches of a unit's own bytes (R323, R332). -/
def unitM1 (c : Context) : Nat → Nat
  | 0 => 0
  | _ + 1 => if firstIsM1 c then 1 else 0

/-- The prefixes that a move discards or ignores (R322, R325). -/
def discards : Instr → Nat
  | .overriddenByIdx _ _ => 1
  | .overriddenByEd _ => 1
  | .ignoredPrefix _ _ => 1
  | _ => 0

/-- A unit has bytes of its own, or is an ignored DD/FD: from its context back to `none` (R325). -/
def ownsBytes (n : Nat) : Context → Context → Bool
  | .idx _, .plain => true
  | _, _ => n != 0

/-- A unit of context `c` has the size its instruction wants: with what is behind it, it makes up the instruction's bytes and opcode
fetches, or what is behind the next unit and the prefixes discarded. -/
def unitFits (c : Context) (u : FetchUnit) : Bool :=
  match nextContext u.instr with
  | none =>
    u.len != 0 && u.len + bytesBefore c == (encode u.instr).length && unitM1 c u.len + m1Before c == ownM1 u.instr
  | some c' =>
    u.len + bytesBefore c == bytesBefore c' + discards u.instr &&
      unitM1 c u.len + m1Before c == m1Before c' + discards u.instr && ownsBytes u.len c c'

/-! One lemma per map: the operand bytes are free, so only the fields of the opcode are split. -/

theorem unitFits_decodeX0 (op n : Byte) (nn : Word) : unitFits .plain (decodeX0 op n nn) = true := by
  simp only [decodeX0]
  generalize pairOf (fieldP op) = p, regMOf (fieldY op) = m
  split
  · split
    case h_5 => cases condJrOf (fieldY op) <;> rfl
    all_goals rfl
  · split <;> cases p <;> rfl
  · split <;> rfl
  · split <;> cases p <;> rfl
  · rcases m with (_ | _ | _ | _ | _ | _ | _) | _ <;> rfl
  · rcases m with (_ | _ | _ | _ | _ | _ | _) | _ <;> rfl
  · rcases m with (_ | _ | _ | _ | _ | _ | _) | _ <;> rfl
  · split <;> rfl

theorem unitFits_decodeX1 (op : Byte) : unitFits .plain (decodeX1 op) = true := by
  unfold decodeX1
  rcases regMOf (fieldY op) with r | _ <;> rcases regMOf (fieldZ op) with q | _
  · cases r <;> cases q <;> rfl
  · cases r <;> rfl
  · cases q <;> rfl
  · rfl

theorem unitFits_decodeAluS (y : Nat) (m : RegM) : unitFits .plain ⟨decodeAluS y m, 1⟩ = true := by
  unfold decodeAluS
  rcases m with r | _
  · split <;> cases r <;> rfl
  · split <;> rfl

theorem unitFits_decodeX3 (op n : Byte) (nn : Word) : unitFits .plain (decodeX3 op n nn) = true := by
  simp only [decodeX3]
  generalize condOf (fieldY op) = cc, pairQOf (fieldP op) = q
  split
  · cases cc <;> rfl
  · split
    case h_5 => cases q <;> rfl
    all_goals rfl
  · cases cc <;> rfl
  · split <;> rfl
  · cases cc <;> rfl
  · split
    case h_5 => cases q <;> rfl
    all_goals rfl
  · unfold decodeAluN
    split <;> rfl
  · generalize fieldB op = y
    decide +revert

theorem unitFits_decodePlain (op b1 b2 : Byte) : unitFits .plain (decodePlain op b1 b2) = true := by
  unfold decodePlain
  split
  · exact unitFits_decodeX0 _ _ _
  · exact unitFits_decodeX1 _
  · exact unitFits_decodeAluS _ _
  · exact unitFits_decodeX3 _ _ _

theorem unitFits_decodeCB (op : Byte) : unitFits .cb (decodeCB op) = true := by
  simp only [decodeCB]
  split
  · split <;> rfl
  · split <;> rfl
  · split <;> rfl
  · split <;> rfl

theorem unitFits_decodeED (op b1 b2 : Byte) : unitFits .ed (decodeED op b1 b2) = true := by
  unfold decodeED
  split
  · simp only [decodeED1]
    split
    · split <;> rfl
    · split <;> rfl
    · split <;> rfl
    · split <;> rfl
    · rfl
    · split <;> rfl
    · rfl
    · split <;> rfl
  · unfold decodeED2
    split <;> rfl
  · rfl

theorem unitFits_decodeIdx (x : Idx) (op b1 b2 : Byte) : unitFits (.idx x) (decodeIdx x op b1 b2) = true := by
  unfold decodeIdx
  split
  · unfold decodeIdx0
    split <;> cases x <;> rfl
  · unfold decodeIdx1
    split
    · cases x <;> rfl
    · cases x <;> rfl
    · split
      · split <;> cases x <;> rfl
      · rfl
  · unfold decodeIdx2 decodeAluXh decodeAluXd
    split
    · split <;> cases x <;> rfl
    · split <;> cases x <;> rfl
    · split <;> cases x <;> rfl
    · rfl
  · unfold decodeIdx3
    split <;> cases x <;> rfl

theorem unitFits_decodeIdxCB (x : Idx) (d op : Byte) : unitFits (.idxCb x d) (decodeIdxCB x d op) = true := by
  simp only [decodeIdxCB]
  split
  · unfold decodeRotXd
    split <;> split <;> cases x <;> rfl
  · cases x <;> rfl
  · split <;> cases x <;> rfl
  · split <;> cases x <;> rfl

/-- Every unit fits its context. -/
theorem unitFits_decodeUnit (c : Context) (b0 b1 b2 : Byte) : unitFits c (decodeUnit c b0 b1 b2) = true := by
  cases c with
  | plain => exact unitFits_decodePlain _ _ _
  | cb => exact unitFits_decodeCB _
  | ed => exact unitFits_decodeED _ _ _
  | idx x => exact unitFits_decodeIdx _ _ _ _
  | idxCb x d => exact unitFits_decodeIdxCB _ _ _

/-- The sizes of an instruction's last unit. -/
theorem unit_size_of_last {c : Context} {b0 b1 b2 : Byte} {u : FetchUnit} (hu : u = decodeUnit c b0 b1 b2)
    (h : nextContext u.instr = none) :
    u.len ≠ 0 ∧ u.len + bytesBefore c = (encode u.instr).length ∧
      unitM1 c u.len + m1Before c = ownM1 u.instr := by
  have hf := unitFits_decodeUnit c b0 b1 b2
  rw [← hu] at hf
  simpa [unitFits, h, and_assoc] using hf

/-- The sizes of a unit that leads on. -/
theorem unit_size_of_move {c c' : Context} {b0 b1 b2 : Byte} {u : FetchUnit} (hu : u = decodeUnit c b0 b1 b2)
    (h : nextContext u.instr = some c') :
    u.len + bytesBefore c = bytesBefore c' + discards u.instr ∧
      unitM1 c u.len + m1Before c = m1Before c' + discards u.instr ∧ ownsBytes u.len c c' = true := by
  have hf := unitFits_decodeUnit c b0 b1 b2
  rw [← hu] at hf
  simpa [unitFits, h, and_assoc] using hf

/-! ## What a unit depends on -/

theorem decodeX0_congr {op n n' : Byte} {nn nn' : Word} (h1 : 1 < (decodeX0 op n nn).len → n = n')
    (h2 : 2 < (decodeX0 op n nn).len → nn = nn') : decodeX0 op n nn = decodeX0 op n' nn' := by
  simp only [decodeX0] at *
  generalize fieldZ op = z at *
  split <;> grind

theorem decodeX3_congr {op n n' : Byte} {nn nn' : Word} (h1 : 1 < (decodeX3 op n nn).len → n = n')
    (h2 : 2 < (decodeX3 op n nn).len → nn = nn') : decodeX3 op n nn = decodeX3 op n' nn' := by
  simp only [decodeX3] at *
  generalize fieldZ op = z at *
  split <;> grind

theorem decodeED1_congr {op : Byte} {nn nn' : Word} (h2 : 2 < (decodeED1 op nn).len → nn = nn') :
    decodeED1 op nn = decodeED1 op nn' := by
  simp only [decodeED1] at *
  generalize fieldZ op = z at *
  split <;> grind

theorem decodeIdx_congr {x : Idx} {op b1 b1' b2 b2' : Byte} (h1 : 1 < (decodeIdx x op b1 b2).len → b1 = b1')
    (h2 : 2 < (decodeIdx x op b1 b2).len → b2 = b2') : decodeIdx x op b1 b2 = decodeIdx x op b1' b2' := by
  unfold decodeIdx at *
  generalize fieldX op = k at *
  split
  · simp only [decodeIdx0] at *
    generalize op.toNat = z at *
    split <;> grind
  · simp only [decodeIdx1] at *
    split <;> grind
  · simp only [decodeIdx2] at *
    split <;> grind
  · simp only [decodeIdx3] at *
    split <;> grind

/-- A unit depends on its own bytes alone (R300, R321). -/
theorem decodeUnit_congr {c : Context} {b0 b1 b1' b2 b2' : Byte} (h1 : 1 < (decodeUnit c b0 b1 b2).len → b1 = b1')
    (h2 : 2 < (decodeUnit c b0 b1 b2).len → b2 = b2') : decodeUnit c b0 b1 b2 = decodeUnit c b0 b1' b2' := by
  have hw (h : 2 < (decodeUnit c b0 b1 b2).len) : word b2 b1 = word b2' b1' := by rw [h1 (by omega), h2 h]
  cases c with
  | cb | idxCb => rfl
  | plain =>
    simp only [decodeUnit, decodePlain] at *
    generalize fieldX b0 = k at *
    split
    · exact decodeX0_congr h1 hw
    · rfl
    · rfl
    · grind [decodeX3_congr]
  | ed =>
    simp only [decodeUnit, decodeED] at *
    generalize fieldX b0 = k at *
    split
    · exact decodeED1_congr hw
    · rfl
    · grind
  | idx x => exact decodeIdx_congr h1 h2

/-! ## Ignored prefixes -/

theorem nextContext_decodeX0 (op n : Byte) (nn : Word) : nextContext (decodeX0 op n nn).instr = none := by
  simp only [decodeX0]
  split <;> split <;> rfl

theorem nextContext_decodeX1 (op : Byte) : nextContext (decodeX1 op).instr = none := by
  unfold decodeX1
  split <;> rfl

theorem nextContext_decodeAluS (y : Nat) (m : RegM) : nextContext (decodeAluS y m) = none := by
  unfold decodeAluS
  split <;> rfl

theorem nextContext_decodeAluN (y : Nat) (n : Byte) : nextContext (decodeAluN y n) = none := by
  unfold decodeAluN
  split <;> rfl

/-- A byte is its fields (R301). -/
theorem eq_of_fields {op : Byte} {x y z : Nat} {v : Byte} (hx : fieldX op = x) (hy : fieldY op = y) (hz : fieldZ op = z)
    (hv : v.toNat = 64 * x + 8 * y + z) : op = v := by
  unfold fieldX at hx
  unfold fieldY at hy
  unfold fieldZ at hz
  exact BitVec.eq_of_toNat_eq (by omega)

/-- In context `none` the moves are the bytes of the four prefixes (R320, R326, R327). -/
theorem prefix_of_decodePlain {op b1 b2 : Byte} (h : nextContext (decodePlain op b1 b2).instr ≠ none) :
    op = 0xCB ∨ op = 0xDD ∨ op = 0xED ∨ op = 0xFD := by
  have hx : fieldX op = 3 := by
    have h3 : fieldX op < 4 := Nat.div_lt_of_lt_mul op.isLt
    have h0 : fieldX op ≠ 0 := fun hx => h (by simp [decodePlain, hx, nextContext_decodeX0])
    have h1 : fieldX op ≠ 1 := fun hx => h (by simp [decodePlain, hx, nextContext_decodeX1])
    have h2 : fieldX op ≠ 2 := fun hx => h (by simp [decodePlain, hx, nextContext_decodeAluS])
    omega
  simp only [decodePlain, hx, decodeX3] at h
  split at h
  case h_2 => split at h <;> exact absurd rfl h
  case h_4 hz =>
    split at h
    case h_2 hy => exact .inl (eq_of_fields hx hy hz rfl)
    all_goals exact absurd rfl h
  case h_6 hz =>
    split at h
    case h_2 hy => exact .inr (.inl (eq_of_fields hx hy hz rfl))
    case h_3 hy => exact .inr (.inr (.inl (eq_of_fields hx hy hz rfl)))
    case h_4 hy => exact .inr (.inr (.inr (eq_of_fields hx hy hz rfl)))
    all_goals exact absurd rfl h
  case h_7 => exact absurd (nextContext_decodeAluN _ _) h
  all_goals exact absurd rfl h

/-- A unit without bytes of its own is an ignored DD/FD, before an opcode that is none of the prefixes (R325). -/
theorem decodePlain_of_ignored {x : Idx} {op b1 b2 : Byte} (h : (decodeIdx x op b1 b2).len = 0) :
    nextContext (decodePlain op b1 b2).instr = none := by
  by_contra hc
  rcases prefix_of_decodePlain hc with rfl | rfl | rfl | rfl <;> exact absurd h (Nat.succ_ne_zero _)

end Sys2Proof.Machine
end

section
/-! PROOFS, 30_encoding R321-R332, 60_exceptions R1310. A step over bytes in plain RAM runs the instruction they decode to: fetch unit by
fetch unit, the step's loop follows `decodeFrom`. -/

namespace Sys2Proof.Machine

open Sys2Proof.Claims

/-! ## Bytes in plain RAM, and their fetch -/

/-- The bytes stand at rising addresses from `a` on, in plain RAM (20_memory R202, R219). -/
def State.holdsBytes (s : State) : Word → List Byte → Prop
  | _, [] => True
  | a, b :: bs => (s.isRam a = true ∧ memRead s.mem a.toNat = b) ∧ s.holdsBytes (a + 1) bs

/-- The events are the fetches of the bytes at rising addresses from `a` on (20_memory R209), each an opcode fetch or an operand fetch. -/
def FetchesOf : Word → List Byte → List Event → Prop
  | _, [], [] => True
  | a, b :: bs, e :: es => (∃ m1, e = .fetch a b m1) ∧ FetchesOf (a + 1) bs es
  | _, _, _ => False

/-- The address after n more bytes (R202). -/
theorem add_ofNat_succ (a : Word) (n : Nat) : a + 1 + BitVec.ofNat 16 n = a + BitVec.ofNat 16 (n + 1) := by
  rw [Nat.add_comm, BitVec.ofNat_add, BitVec.add_assoc]
  rfl

/-- What the statements say of each byte, byte by byte from the first. -/
theorem State.holdsBytes_of_forall {s : State} {bs : List Byte} {a : Word}
    (h : ∀ (k : Nat) (hk : k < bs.length),
      s.isRam (a + BitVec.ofNat 16 k) = true ∧ memRead s.mem (a + BitVec.ofNat 16 k).toNat = bs[k]) : s.holdsBytes a bs := by
  induction bs generalizing a with
  | nil => trivial
  | cons b bs ih =>
    refine ⟨BitVec.add_zero a ▸ h 0 (Nat.zero_lt_succ _), ih fun k hk => ?_⟩
    rw [add_ofNat_succ]
    exact h (k + 1) (Nat.succ_lt_succ hk)

/-- It depends on memory and the ranges of plain RAM alone. -/
theorem State.holdsBytes_congr {s t : State} (hr : t.ram = s.ram) (hm : t.mem = s.mem) {a : Word} {bs : List Byte}
    (h : s.holdsBytes a bs) : t.holdsBytes a bs := by
  induction bs generalizing a with
  | nil => trivial
  | cons b bs ih => exact ⟨by rw [State.isRam_congr hr, hm]; exact h.1, ih h.2⟩

theorem State.holdsBytes_take {s : State} {a : Word} {bs : List Byte} (n : Nat) (h : s.holdsBytes a bs) : s.holdsBytes a (bs.take n) := by
  induction n generalizing a bs with
  | zero => trivial
  | succ n ih =>
    cases bs with
    | nil => trivial
    | cons b bs => exact ⟨h.1, ih h.2⟩

theorem State.holdsBytes_drop {s : State} {a : Word} {bs : List Byte} (n : Nat) (h : s.holdsBytes a bs) :
    s.holdsBytes (a + BitVec.ofNat 16 n) (bs.drop n) := by
  induction n generalizing a bs with
  | zero => simpa using h
  | succ n ih =>
    cases bs with
    | nil => trivial
    | cons b bs =>
      rw [← add_ofNat_succ]
      exact ih h.2

/-- The byte a read of the first address gives. -/
theorem State.memVal_of_holdsBytes {s : State} {a : Word} {b : Byte} {bs : List Byte} (h : s.holdsBytes a (b :: bs)) : s.memVal a = b := by
  rw [State.memVal_of_ram h.1.1]
  exact h.1.2

theorem fetchesOf_append {a : Word} {bs cs : List Byte} {es fs : List Event} (h : FetchesOf a bs es)
    (h' : FetchesOf (a + BitVec.ofNat 16 bs.length) cs fs) : FetchesOf a (bs ++ cs) (es ++ fs) := by
  induction bs generalizing a es with
  | nil =>
    cases es with
    | nil => simpa using h'
    | cons e es => exact h.elim
  | cons b bs ih =>
    cases es with
    | nil => exact h.elim
    | cons e es =>
      rw [List.length_cons, ← add_ofNat_succ] at h'
      exact ⟨h.1, ih h.2 h'⟩

theorem fetchesOf_length {a : Word} {bs : List Byte} {es : List Event} (h : FetchesOf a bs es) : es.length = bs.length := by
  induction bs generalizing a es with
  | nil =>
    cases es with
    | nil => rfl
    | cons e es => exact h.elim
  | cons b bs ih =>
    cases es with
    | nil => exact h.elim
    | cons e es => rw [List.length_cons, List.length_cons, ih h.2]

theorem fetchesOf_getElem? {a : Word} {bs : List Byte} {es : List Event} (h : FetchesOf a bs es) (k : Nat) (hk : k < bs.length) :
    ∃ m1, es[k]? = some (.fetch (a + BitVec.ofNat 16 k) bs[k] m1) := by
  induction bs generalizing a es k with
  | nil => exact absurd hk (by simp)
  | cons b bs ih =>
    cases es with
    | nil => exact h.elim
    | cons e es =>
      cases k with
      | zero => simpa using h.1
      | succ k =>
        rw [← add_ofNat_succ]
        exact ih h.2 k (Nat.lt_of_succ_lt_succ hk)

/-- `t` is `s` with these bytes fetched: PC past them, R counted m1 times, `cyc` T-states for discarded prefixes, and the fetch phase in
this context (R321, R330). -/
def State.Fetched (s : State) (bs : List Byte) (m1 cyc : Nat) (c : Option Context) (t : State) : Prop :=
  ∃ ev, t = { s with
    pc := s.pc + BitVec.ofNat 16 bs.length, r := refreshCount s.r m1, fetching := c, cycles := s.cycles + cyc
    events := s.events ++ ev } ∧ FetchesOf s.pc bs ev

theorem refreshCount_zero (r : Byte) : refreshCount r 0 = r := by
  apply BitVec.eq_of_toNat_eq
  have := r.isLt
  simp only [refreshCount, BitVec.toNat_ofNat]
  omega

namespace State.Fetched

variable {s t u : State} {bs cs : List Byte} {m n k l : Nat} {c c' : Option Context}

theorem nil : s.Fetched [] 0 0 s.fetching s := ⟨[], by simp [refreshCount_zero], trivial⟩

/-- One fetch after another. -/
theorem trans (h : s.Fetched bs m k c t) (h' : t.Fetched cs n l c' u) : s.Fetched (bs ++ cs) (m + n) (k + l) c' u := by
  obtain ⟨ev, rfl, he⟩ := h
  obtain ⟨ev', rfl, he'⟩ := h'
  exact ⟨ev ++ ev', by simp [refreshCount_add, BitVec.ofNat_add, BitVec.add_assoc, Nat.add_assoc], fetchesOf_append he he'⟩

theorem holdsBytes (h : s.Fetched bs m k c t) {a : Word} (hb : s.holdsBytes a cs) : t.holdsBytes a cs := by
  obtain ⟨ev, rfl, -⟩ := h
  refine State.holdsBytes_congr ?_ ?_ hb <;> rfl

/-- What a move to the next context does on top of the fetch of its unit. -/
theorem move (h : s.Fetched bs m 0 c t) (c' : Option Context) (k : Nat) : s.Fetched bs m k c' ((t.setFetching c').tick k) := by
  obtain ⟨ev, rfl, he⟩ := h
  exact ⟨ev, rfl, he⟩

theorem fetchByte {b : Byte} (h : s.holdsBytes s.pc [b]) : s.Fetched [b] 0 0 s.fetching s.fetchByte := by
  rw [State.fetchByte_eq, State.memVal_of_holdsBytes h]
  exact ⟨[.fetch s.pc b false], by simp [State.readCost, h.1.1, refreshCount_zero], ⟨⟨_, rfl⟩, trivial⟩⟩

theorem fetchFirst {b : Byte} (h : s.holdsBytes s.pc [b]) (c : Context) :
    s.Fetched [b] (unitM1 c 1) 0 s.fetching (s.fetchFirst c) := by
  simp only [State.fetchFirst, unitM1]
  split
  · rw [State.fetchOpcode_eq, State.memVal_of_holdsBytes h]
    exact ⟨[.fetch s.pc b true], by simp [State.readCost, h.1.1, refreshed_eq], ⟨⟨_, rfl⟩, trivial⟩⟩
  · exact fetchByte h

/-- PC after a fetch. -/
theorem pc_eq (h : s.Fetched bs m k c t) : t.pc = s.pc + BitVec.ofNat 16 bs.length := by
  obtain ⟨ev, rfl, -⟩ := h
  rfl

theorem fetching_eq (h : s.Fetched bs m k c t) : t.fetching = c := by
  obtain ⟨ev, rfl, -⟩ := h
  rfl

theorem fetchBytes (h : s.holdsBytes s.pc bs) : s.Fetched bs 0 0 s.fetching (s.fetchBytes bs.length) := by
  induction bs generalizing s with
  | nil => exact nil
  | cons b bs ih =>
    have hb : s.Fetched [b] 0 0 s.fetching s.fetchByte := fetchByte ⟨h.1, trivial⟩
    have hr := ih (hb.pc_eq ▸ hb.holdsBytes h.2)
    rw [hb.fetching_eq] at hr
    exact hb.trans hr

theorem fetchLen (h : s.holdsBytes s.pc bs) (c : Context) :
    s.Fetched bs (unitM1 c bs.length) 0 s.fetching (s.fetchLen c bs.length) := by
  cases bs with
  | nil => exact nil
  | cons b bs =>
    have hb : s.Fetched [b] (unitM1 c 1) 0 s.fetching (s.fetchFirst c) := fetchFirst ⟨h.1, trivial⟩ c
    have hr := fetchBytes (hb.pc_eq ▸ hb.holdsBytes h.2)
    rw [hb.fetching_eq] at hr
    exact hb.trans hr

theorem fetchUnit {c : Context} (h : s.holdsBytes s.pc bs) (hl : (s.unitAt c).len ≤ bs.length) :
    s.Fetched (bs.take (s.unitAt c).len) (unitM1 c (s.unitAt c).len) 0 none (s.fetchUnit c) := by
  have hf := fetchLen (State.holdsBytes_take (s.unitAt c).len h) c
  rw [List.length_take, Nat.min_eq_left hl] at hf
  exact hf.move none 0

end State.Fetched

/-- The unit at PC is the one the bytes there resolve to (R321). -/
theorem State.unitAt_of_holdsBytes {s : State} {c : Context} {b : Byte} {bs : List Byte} (h : s.holdsBytes s.pc (b :: bs))
    (hl : (decodeUnit c b (bs.getD 0 0) (bs.getD 1 0)).len ≤ bs.length + 1) :
    s.unitAt c = decodeUnit c b (bs.getD 0 0) (bs.getD 1 0) := by
  have h1 : s.Fetched [b] (unitM1 c 1) 0 s.fetching (s.fetchFirst c) := .fetchFirst ⟨h.1, trivial⟩ c
  have hb1 : (s.fetchFirst c).holdsBytes (s.fetchFirst c).pc bs := h1.pc_eq ▸ h1.holdsBytes h.2
  unfold State.unitAt
  rw [State.memVal_of_holdsBytes h]
  refine (decodeUnit_congr (fun hlt => ?_) (fun hlt => ?_)).symm
  · cases bs with
    | nil => exact absurd (Nat.lt_of_lt_of_le hlt hl) (Nat.lt_irrefl 1)
    | cons b1 bs => exact (State.memVal_of_holdsBytes hb1).symm
  · match bs, hb1 with
    | [], _ => exact absurd (Nat.lt_of_lt_of_le hlt hl) (by decide)
    | [_], _ => exact absurd (Nat.lt_of_lt_of_le hlt hl) (Nat.lt_irrefl 2)
    | b1 :: b2 :: bs, hb1 =>
      have h2 : (s.fetchFirst c).Fetched [b1] 0 0 _ (s.fetchFirst c).fetchByte := .fetchByte ⟨hb1.1, trivial⟩
      exact (State.memVal_of_holdsBytes (h2.pc_eq ▸ h2.holdsBytes hb1.2)).symm

/-! ## The loop over fetch units -/

/-- What writes nothing unmarks nothing. -/
theorem State.markWritten_of_writes_nil {i : Instr} (s : State) (h : i.writes = []) : s.markWritten i = s := by
  unfold State.markWritten
  split
  · rfl
  · simp [h, State.setUnwritten]

/-- A row of the prefixes is a move, with no read to check and no mark to remove (R321, R322, R325). -/
theorem runInstr_of_move {i : Instr} {c : Context} (s : State) (h : nextContext i = some c) :
    runInstr i s = .next ((s.setFetching (some c)).tick (4 * discards i)) := by
  unfold nextContext at h
  split at h <;> cases h <;> simp only [runInstr, Instr.reads, checkReads_nil] <;> exact congrArg _ (State.markWritten_of_writes_nil _ rfl)

/-- Any other instruction leaves the fetch phase as it is. -/
theorem State.control_fetching {i : Instr} (s : State) (h : nextContext i = none) : (s.control i).fetching = s.fetching := by
  unfold State.control
  split <;> simp_all [nextContext]

/-- The last unit of a fetch phase: the step ends with its instruction. -/
theorem runUnits_last {s : State} {c : Context} (n : Nat) (hc : s.fetching = some c) (hi : nextContext (s.unitAt c).instr = none) :
    runUnits (n + 1) s = runInstr (s.unitAt c).instr (s.fetchUnit c) := by
  cases hr : runInstr (s.unitAt c).instr (s.fetchUnit c) with
  | next t =>
    rw [runUnits_succ n hc hr]
    obtain ⟨-, u, hu, rfl⟩ := runInstr_next hr
    refine runUnits_none n ?_
    rw [State.markWritten_eq]
    show u.fetching = none
    rw [(exec_next hu).fetching, State.control_fetching _ hi, State.fetchUnit_frame]
  | fault e => simp [runUnits, hc, hr]
  | refused e => simp [runUnits, hc, hr]

/-- Enough units to run: one more than there are bytes, since an ignored DD/FD has a unit without bytes (R325), or one if it
is the last. -/
def EnoughUnits (m : Nat) (c : Context) (bs : List Byte) : Prop :=
  bs.length < m ∨ 0 < m ∧ nextContext (decodeUnit c (bs.getD 0 0) (bs.getD 1 0) (bs.getD 2 0)).instr = none

/-- After a move one unit less is needed, or one is enough: an ignored DD/FD comes after the other prefixes (R325). -/
theorem EnoughUnits.after_move {m : Nat} {c c' : Context} {b : Byte} {bs : List Byte} {u : FetchUnit}
    (hm : EnoughUnits (m + 1) c (b :: bs)) (hu : u = decodeUnit c b (bs.getD 0 0) (bs.getD 1 0))
    (hn : nextContext u.instr = some c') : EnoughUnits m c' ((b :: bs).drop u.len) := by
  have hlen : (b :: bs).length < m + 1 := by
    rcases hm with h | ⟨-, h⟩
    · exact h
    · have h : nextContext (decodeUnit c b (bs.getD 0 0) (bs.getD 1 0)).instr = none := h
      rw [← hu, hn] at h
      cases h
  obtain ⟨-, -, hown⟩ := unit_size_of_move hu hn
  by_cases h0 : u.len = 0
  · rw [h0] at hown ⊢
    unfold ownsBytes at hown
    split at hown
    · refine .inr ⟨Nat.lt_of_lt_of_le (Nat.zero_lt_succ _) (Nat.le_of_lt_succ hlen), ?_⟩
      exact decodePlain_of_ignored (hu ▸ h0)
    · cases hown
  · refine .inl ?_
    rw [List.length_drop]
    rw [List.length_cons] at hlen ⊢
    omega

/-- One unit of a decoding that succeeds: it is whole, and ends the decoding or leads on. -/
theorem decodeFrom_cons {n : Nat} {c : Context} {b : Byte} {bs rest : List Byte} {i : Instr} {u : FetchUnit}
    (hu : u = decodeUnit c b (bs.getD 0 0) (bs.getD 1 0)) (h : decodeFrom (n + 1) c (b :: bs) = .ok (i, rest)) :
    u.len ≤ (b :: bs).length ∧
      (nextContext u.instr = none ∧ u.instr = i ∧ (b :: bs).drop u.len = rest ∨
        ∃ c', nextContext u.instr = some c' ∧ decodeFrom n c' ((b :: bs).drop u.len) = .ok (i, rest)) := by
  simp only [decodeFrom, ← hu] at h
  split at h
  · cases h
  · rename_i hl
    refine ⟨Nat.le_of_not_lt hl, ?_⟩
    split at h
    · rename_i hn
      cases h
      exact .inl ⟨hn, rfl, rfl⟩
    · exact .inr ⟨_, ‹_›, h⟩

/-- The loop runs the instruction the bytes decode to, after their fetch: with what is behind its context, it has fetched the
instruction's own bytes and `e` discarded prefixes. -/
theorem runUnits_of_decodeFrom {n m : Nat} {s : State} {c : Context} {bs : List Byte} {i : Instr} (hc : s.fetching = some c)
    (hb : s.holdsBytes s.pc bs) (hd : decodeFrom n c bs = .ok (i, [])) (hm : EnoughUnits m c bs) :
    ∃ f e k, s.Fetched bs k (4 * e) none f ∧ runUnits m s = runInstr i f ∧
      bs.length + bytesBefore c = (encode i).length + e ∧ k + m1Before c = ownM1 i + e := by
  induction n generalizing m s c bs with
  | zero => cases hd
  | succ n ih =>
    cases bs with
    | nil => cases hd
    | cons b bs =>
      obtain ⟨m, rfl⟩ : ∃ m', m = m' + 1 := Nat.exists_eq_add_one.mpr (by rcases hm with h | h <;> omega)
      obtain ⟨hl, hd⟩ := decodeFrom_cons rfl hd
      have hu := State.unitAt_of_holdsBytes hb hl
      have hf := State.Fetched.fetchUnit (c := c) hb (hu ▸ hl)
      rw [← hu] at hd hl
      rcases hd with ⟨hn, rfl, hrest⟩ | ⟨c', hn, hd⟩
      · have hall := Nat.le_antisymm hl (List.drop_eq_nil_iff.mp hrest)
        obtain ⟨-, hbytes, hm1⟩ := unit_size_of_last hu hn
        rw [List.take_of_length_le (List.drop_eq_nil_iff.mp hrest)] at hf
        exact ⟨_, 0, _, hf, runUnits_last m hc hn, hall ▸ hbytes, hm1⟩
      · obtain ⟨hbytes, hm1, -⟩ := unit_size_of_move hu hn
        have hmove := hf.move (some c') (4 * discards (s.unitAt c).instr)
        have hpc := hmove.pc_eq
        rw [List.length_take, Nat.min_eq_left hl] at hpc
        have hb' := hpc ▸ hmove.holdsBytes (State.holdsBytes_drop (s.unitAt c).len hb)
        obtain ⟨f, e, k, hf', hr, hbytes', hm1'⟩ := ih hmove.fetching_eq hb' hd (hm.after_move hu hn)
        refine ⟨f, discards (s.unitAt c).instr + e, unitM1 c (s.unitAt c).len + k, ?_, ?_, ?_, ?_⟩
        · have := hmove.trans hf'
          rwa [List.take_append_drop, ← Nat.mul_add] at this
        · rw [runUnits_succ m hc (runInstr_of_move _ hn)]
          exact hr
        · rw [List.length_drop] at hbytes'
          omega
        · omega

/-! ## The step -/

/-- Under DRAW an instruction with its bookkeeping is `exec` (R130). -/
theorem runInstr_of_draw {i : Instr} {s : State} (hp : s.params.resetRegs = .draw) : runInstr i s = exec i s := by
  obtain ⟨t, hc, ht, hr⟩ := runInstr_eq i s
  have hp' : t.params.resetRegs = .draw := by rw [hc.params, State.control_params, hp]
  rw [hr, ht, State.markWritten_of_draw hp', checkReads, State.unwrittenRead_of_draw hp]

/-- Under FAULT_ON_READ it faults on the first unwritten register it reads, or unmarks what it writes (R130). -/
theorem runInstr_of_faultOnRead {i : Instr} {s : State} (hp : s.params.resetRegs = .faultOnRead) :
    match (i.reads s).find? fun n => decide (n ∈ s.unwritten) with
    | some n => runInstr i s = .fault (.readBeforeWrite n)
    | none => ∃ t, exec i s = .next t ∧
      runInstr i s = .next { t with unwritten := s.unwritten.filter fun n => decide (n ∉ i.writes) } := by
  have hread : s.unwrittenRead (i.reads s) = (i.reads s).find? fun n => decide (n ∈ s.unwritten) := by
    simp [State.unwrittenRead, hp]
  rw [← hread]
  split
  · exact runInstr_of_unwritten ‹_›
  · obtain ⟨t, hc, ht, -⟩ := runInstr_eq i s
    have hp' : t.params.resetRegs = .faultOnRead := by rw [hc.params, State.control_params, hp]
    refine ⟨t, ht, ?_⟩
    rw [runInstr_of_exec ‹_› ht, ← s.control_unwritten i, ← hc.unwritten]
    simp [State.markWritten, hp', State.setUnwritten]

/-- Settles O59: the step is the loop over the units of the bytes, which stays within the units a model step may take. -/
theorem stepRunsTheDecodedInstruction : Obligations.StepRunsTheDecodedInstruction := by
  intro s bs i hf hn hdue hh hlen hbytes hd
  have hstep : step s = runUnits Config.maxUnits (s.beginStep.setFetching (some .plain)) := by
    have ha : ¬s.intAccepted = true := mt (intAccepted_iff hf hn).mp hdue
    simp [step, coreStep, executeStep, hf, hn, ha, hh]
  have hb : (s.beginStep.setFetching (some .plain)).holdsBytes s.pc bs := State.holdsBytes_of_forall hbytes
  obtain ⟨f, e, k, ⟨ev, hfetched, hev⟩, hr, hsize, hm1⟩ :=
    runUnits_of_decodeFrom (m := Config.maxUnits) rfl hb hd (.inl (Nat.lt_of_le_of_lt hlen (by decide)))
  have he : bs.length - (encode i).length = e := by
    simp only [bytesBefore] at hsize
    omega
  have hk : k = ownM1 i + e := hm1
  have hfs : f = { s with
      pc := s.pc + BitVec.ofNat 16 bs.length, r := refreshCount s.r (ownM1 i + e), intInhibit := .none, cycles := 4 * e
      events := ev } := by
    rw [hfetched, hk]
    simp [State.beginStep, hf]
  have hevents : f.events = ev := by rw [hfs]
  have hparams : f.params = s.params := by rw [hfs]
  have hunwritten : f.unwritten = s.unwritten := by rw [hfs]
  rw [hstep, hr, he, ← hunwritten]
  refine ⟨f, fun hp => runInstr_of_draw (hparams ▸ hp), fun hp => runInstr_of_faultOnRead (hparams ▸ hp), ?_, ?_, ?_⟩
  · rw [hevents, hfs]
  · rw [hevents, fetchesOf_length hev]
  · rw [hevents]
    exact fetchesOf_getElem? hev

end Sys2Proof.Machine
end

section
/-! PROOFS, 20_memory R210. What an instruction does to memory: it changes no byte outside the addresses it stores to. -/

namespace Sys2Proof.Machine

open Sys2Proof.Claims

/-! ## Stores within a list of addresses -/

/-- From `s` to `t` memory is unchanged outside the addresses of `l`. -/
def StoresWithin (l : List Word) (s t : State) : Prop :=
  ∀ a : Nat, (∀ w ∈ l, w.toNat ≠ a) → memRead t.mem a = memRead s.mem a

namespace StoresWithin

variable {l : List Word} {s t : State}

/-- Where memory is the same, nothing was stored. -/
theorem of_mem_eq (h : t.mem = s.mem) : StoresWithin l s t := fun _ _ => by rw [h]

theorem refl : StoresWithin l s s := of_mem_eq rfl

/-- A store to an address of the list. -/
theorem store (h : StoresWithin l s t) {w : Word} {v : Byte} (hw : w ∈ l) : StoresWithin l s (t.store w v) := by
  intro a ha
  rw [State.store_eq, ← h a ha]
  exact t.memRead_ramWrite_ne t.mem v (ha w hw).symm

theorem setRegs (h : StoresWithin l s t) {v : RegFile} : StoresWithin l s (t.setRegs v) := h
theorem setIx (h : StoresWithin l s t) {v : Word} : StoresWithin l s (t.setIx v) := h
theorem setIy (h : StoresWithin l s t) {v : Word} : StoresWithin l s (t.setIy v) := h
theorem setSp (h : StoresWithin l s t) {v : Word} : StoresWithin l s (t.setSp v) := h
theorem setPc (h : StoresWithin l s t) {v : Word} : StoresWithin l s (t.setPc v) := h
theorem setIff1 (h : StoresWithin l s t) {v : Bool} : StoresWithin l s (t.setIff1 v) := h
theorem setDraws (h : StoresWithin l s t) {n : Nat} : StoresWithin l s (t.setDraws n) := h
theorem emit (h : StoresWithin l s t) {e : Event} : StoresWithin l s (t.emit e) := h
theorem tick (h : StoresWithin l s t) {n : Nat} : StoresWithin l s (t.tick n) := h

/-! The registers named by an operand field -/

theorem setIdx (h : StoresWithin l s t) {x : Idx} {v : Word} : StoresWithin l s (t.setIdx x v) := by
  cases x
  · exact h.setIx
  · exact h.setIy

theorem setHalf (h : StoresWithin l s t) {x : Idx} {k : Half} {v : Byte} : StoresWithin l s (t.setHalf x k v) := by
  cases k <;> exact h.setIdx

theorem setRegX (h : StoresWithin l s t) {x : Idx} {r : RegX} {v : Byte} : StoresWithin l s (t.setRegX x r v) := by
  cases r with
  | xh => exact h.setHalf (k := .high)
  | xl => exact h.setHalf (k := .low)
  | b | c | d | e | a => exact h.setRegs

theorem setPair (h : StoresWithin l s t) {p : Pair} {v : Word} : StoresWithin l s (t.setPair p v) := by
  cases p with
  | sp => exact h.setSp
  | bc | de | hl => exact h.setRegs

theorem setPairQ (h : StoresWithin l s t) {q : PairQ} {v : Word} : StoresWithin l s (t.setPairQ q v) := by
  cases q <;> exact h.setRegs

/-! Memory and the stack -/

theorem readDone (h : StoresWithin l s t) {a : Word} : StoresWithin l s (t.readDone a) := by
  rw [State.readDone_eq]
  exact h

theorem readDone2 (h : StoresWithin l s t) {a : Word} : StoresWithin l s (t.readDone2 a) := h.readDone.readDone

theorem popPc (h : StoresWithin l s t) : StoresWithin l s t.popPc := h.readDone2.setSp.setPc

theorem mReadDone (h : StoresWithin l s t) {m : RegM} : StoresWithin l s (t.mReadDone m) := by
  cases m
  · exact h
  · exact h.readDone

theorem rmw (h : StoresWithin l s t) {w : Word} {v : Byte} (hw : w ∈ l) : StoresWithin l s (t.rmw w v) := h.readDone.store hw

theorem push {v : Word} : StoresWithin [s.sp - 1, s.sp - 2] s (s.push v) := by
  intro a ha
  rw [State.push_eq]
  exact (s.memRead_ramWrite_ne _ _ (ha _ (by simp)).symm).trans (s.memRead_ramWrite_ne _ _ (ha _ (by simp)).symm)

/-! The shared bodies of the instructions -/

theorem aluM {op : AluOp} {m : RegM} : StoresWithin l s (s.aluM op m) := refl.mReadDone.setRegs.tick
theorem aluXd {op : AluOp} {x : Idx} {d : Byte} : StoresWithin l s (s.aluXd op x d) := refl.readDone.setRegs.tick

theorem rotReg {op : RotOp} {r : Reg8} : StoresWithin l s (s.rotM op (.reg r)) := of_mem_eq rfl
theorem rotHl {op : RotOp} : StoresWithin [s.regs.hl] s (s.rotM op .hl) := by
  have hw : (s.readDone s.regs.hl).regs.hl ∈ [s.regs.hl] := by simp [State.readDone_eq]
  exact (refl.readDone.store hw).setRegs.tick
theorem rotXd {op : RotOp} {x : Idx} {d : Byte} : StoresWithin [s.ea x d] s (s.rotXd op x d) :=
  (refl.rmw List.mem_cons_self).setRegs.tick
theorem rotXdR {op : RotOp} {x : Idx} {d : Byte} {r : Reg8} : StoresWithin [s.ea x d] s (s.rotXdR op x d r) := rotXd.setRegs

theorem scfDrawn : StoresWithin l s s.scfDrawn := by
  unfold State.scfDrawn
  split
  · exact refl
  · exact refl.setDraws

theorem ldAFromIr {v : Byte} : StoresWithin l s (s.ldAFromIr v) := by
  unfold State.ldAFromIr
  split
  · exact refl.setDraws.setRegs
  · exact refl.setRegs

theorem ldUnit {k : Dir} : StoresWithin [s.regs.de] s (s.ldUnit k) := (refl.readDone.store List.mem_cons_self).setRegs
theorem cpUnit {k : Dir} : StoresWithin l s (s.cpUnit k) := refl.readDone.setRegs
theorem inUnit {k : Dir} : StoresWithin [s.regs.hl] s (s.inUnit k) := (refl.setDraws.emit.store List.mem_cons_self).setRegs
theorem outUnit {k : Dir} : StoresWithin l s (s.outUnit k) := refl.readDone.emit.setRegs

theorem repeatYX (h : StoresWithin l s t) : StoresWithin l s t.repeatYX := by
  unfold State.repeatYX
  split
  · exact h
  · exact h.setDraws.setRegs

theorem repeatYXHP (h : StoresWithin l s t) : StoresWithin l s t.repeatYXHP := by
  unfold State.repeatYXHP
  split
  · exact h
  · exact h.setDraws.setRegs

theorem ldRepeat (h : StoresWithin l s t) : StoresWithin l s t.ldRepeat := by
  unfold State.ldRepeat
  split
  · exact h.tick
  · exact h.repeatYX.setPc.tick

theorem cpRepeat (h : StoresWithin l s t) : StoresWithin l s t.cpRepeat := by
  unfold State.cpRepeat
  split
  · exact h.tick
  · exact h.repeatYX.setPc.tick

theorem ioRepeat (h : StoresWithin l s t) : StoresWithin l s t.ioRepeat := by
  unfold State.ioRepeat
  split
  · exact h.tick
  · exact h.repeatYXHP.setPc.tick

end StoresWithin

/-! ## The addresses an instruction stores to -/

/-- The result is a next state, and its memory is that of `s` outside the addresses of `l`. -/
def AnswersWithin (l : List Word) (s : State) (r : Result) : Prop := ∃ t, r = .next t ∧ StoresWithin l s t

theorem AnswersWithin.next {l : List Word} {s t : State} (h : StoresWithin l s t) : AnswersWithin l s (.next t) := ⟨t, rfl, h⟩

theorem AnswersWithin.ite {p : Prop} [Decidable p] {l l' : List Word} {s : State} {r r' : Result} (h : AnswersWithin l s r)
    (h' : AnswersWithin l' s r') : AnswersWithin (if p then l else l') s (if p then r else r') := by
  split
  · exact h
  · exact h'

open StoresWithin List in
/-- Every instruction goes on, and stores within the addresses `storesTo` lists. -/
theorem exec_answersWithin_storesTo (i : Instr) (s : State) : AnswersWithin (storesTo s i) s (exec i s) := by
  cases i with
  -- 40_load_exchange
  | ldRR | ldRN | ldIA | ldRA | ldSpHl | ldSpIxy | exDeHl | exAfAf | exx => exact .next (of_mem_eq rfl)
  | ldRHl | ldRXd | ldABc | ldADe | ldANn => exact .next refl.readDone.setRegs.tick
  | ldHlR | ldXdR | ldHlN | ldXdN | ldBcA | ldDeA | ldNnA => exact .next (refl.store mem_cons_self).tick
  | ldAI | ldAR => exact .next ldAFromIr.tick
  | ldXh => exact .next refl.setRegX.tick
  | ldXhN => exact .next refl.setHalf.tick
  | ldDdNn => exact .next refl.setPair.tick
  | ldIxyNn => exact .next refl.setIdx.tick
  | ldHlInd => exact .next refl.readDone2.setRegs.tick
  | ldIxyInd => exact .next refl.readDone2.setIdx.tick
  | ldDdInd => exact .next refl.readDone2.setPair.tick
  | ldNnHl | ldNnIxy | ldNnDd =>
    exact .next ((refl.store mem_cons_self).store (mem_cons_of_mem _ mem_cons_self)).tick
  | pushQq | pushIxy => exact .next push.tick
  | popQq => exact .next refl.readDone2.setSp.setPairQ.tick
  | popIxy => exact .next refl.readDone2.setSp.setIdx.tick
  | exSpHl => exact .next ((refl.readDone2.store (mem_cons_of_mem _ mem_cons_self)).store mem_cons_self).setRegs.tick
  | exSpIxy => exact .next ((refl.readDone2.store (mem_cons_of_mem _ mem_cons_self)).store mem_cons_self).setIdx.tick
  -- 41_alu8
  | addAS | adcAS | subS | sbcAS | andS | xorS | orS | cpS => exact .next aluM
  | addAXd | adcAXd | subXd | sbcAXd | andXd | xorXd | orXd | cpXd => exact .next aluXd
  | addAN | adcAN | subN | sbcAN | andN | xorN | orN | cpN => exact .next (of_mem_eq rfl)
  | addAXh | adcAXh | subXh | sbcAXh | andXh | xorXh | orXh | cpXh => exact .next (of_mem_eq rfl)
  | incR | decR | daa | cpl | neg => exact .next (of_mem_eq rfl)
  | incHl | decHl | incXd | decXd => exact .next (refl.rmw mem_cons_self).setRegs.tick
  | incXh | decXh => exact .next refl.setHalf.setRegs.tick
  | ccf | scf => exact .next scfDrawn.setRegs.tick
  -- 42_alu16
  | addHlSs | adcHlSs | sbcHlSs => exact .next (of_mem_eq rfl)
  | addIxyPp => exact .next refl.setIdx.setRegs.tick
  | incSs | decSs => exact .next refl.setPair.tick
  | incIxy | decIxy => exact .next refl.setIdx.tick
  -- 43_block
  | ldi | ldd => exact .next ldUnit.tick
  | ldir | lddr => exact .next ldUnit.ldRepeat
  | cpi | cpd => exact .next cpUnit.tick
  | cpir | cpdr => exact .next cpUnit.cpRepeat
  | ini | ind => exact .next inUnit.tick
  | inir | indr => exact .next inUnit.ioRepeat
  | outi | outd => exact .next outUnit.tick
  | otir | otdr => exact .next outUnit.ioRepeat
  -- 44_rotate_shift
  | rlca | rla | rrca | rra => exact .next (of_mem_eq rfl)
  | rlcM m | rrcM m | rlM m | rrM m | slaM m | sraM m | sllM m | srlM m =>
    cases m with
    | reg => exact .next rotReg
    | hl => exact .next rotHl
  | rlcXd | rrcXd | rlXd | rrXd | slaXd | sraXd | sllXd | srlXd => exact .next rotXd
  | rlcXdR | rrcXdR | rlXdR | rrXdR | slaXdR | sraXdR | sllXdR | srlXdR => exact .next rotXdR
  | rld | rrd => exact .next (refl.rmw mem_cons_self).setRegs.tick
  -- 45_bit
  | bitBR | setBR | resBR => exact .next (of_mem_eq rfl)
  | bitBHl | bitBXd =>
    simp only [exec, execBitBHl, execBitBXd]
    split
    · exact .next refl.readDone.setRegs.tick
    · exact .next refl.readDone.setDraws.setRegs.tick
  | setBHl | resBHl | setBXd | resBXd => exact .next (refl.rmw mem_cons_self).tick
  | setBXdR | resBXdR => exact .next (refl.rmw mem_cons_self).setRegs.tick
  -- 46_jump_call_return
  | jpNn | jr | jpHl | jpIxy => exact .next (of_mem_eq rfl)
  | jpCcNn | jrCc | djnz =>
    simp only [exec, execJpCcNn, execJrCc, execDjnz]
    split <;> exact .next (of_mem_eq rfl)
  | callNn | rst => exact .next push.setPc.tick
  | callCcNn => exact .ite (.next push.setPc.tick) (.next refl.tick)
  | ret => exact .next refl.popPc.tick
  | retCc =>
    simp only [exec, execRetCc]
    split
    · exact .next refl.popPc.tick
    · exact .next refl.tick
  | retn => exact .next refl.popPc.setIff1.tick
  | reti =>
    simp only [exec, execReti, State.returnInt]
    split
    · exact .next refl.popPc.setIff1.emit.tick
    · exact .next refl.popPc.emit.tick
  -- 47_cpu_control
  | nop | halt | di | ei | imM | edUndefined => exact .next (of_mem_eq rfl)
  | prefixCB | prefixED | prefixIdx | prefixIdxCB => exact .next (of_mem_eq rfl)
  | overriddenByIdx | overriddenByEd | ignoredPrefix => exact .next (of_mem_eq rfl)
  -- 48_io
  | inAN | inRC | inFC | outNA | outCR | outC0 => exact .next (of_mem_eq rfl)

/-- Settles O50: `storesTo` lists every address an instruction stores to. -/
theorem memoryChangesOnlyWhereStored : Obligations.MemoryChangesOnlyWhereStored := by
  intro i s t h
  obtain ⟨u, hu, hm⟩ := exec_answersWithin_storesTo i s
  rw [hu] at h
  cases h
  exact hm

end Sys2Proof.Machine
end

section
/-! PROOFS, 48_io. The single-byte port instructions (48_io R1200-R1205). -/

namespace Sys2Proof.Machine

open Sys2Proof.Claims

/-- The model's parity is that of the statements (41_alu8 R506). -/
theorem evenOnes_eq_parity (v : Byte) : evenOnes v = parity v := by
  revert v
  decide

/-- The model's flags of a rotated byte are those of the statements (41_alu8 R504). -/
theorem rotateFlags_rotateFlags8 (v : Byte) (co : Bool) : RotateFlags v (rotateFlags8 v co) co := by
  simp [RotateFlags, FlagsAre, rotateFlags8, szFlags, evenOnes_eq_parity]

/-- A register written, and F as it was, is a change of that register alone (30_encoding R302). -/
theorem onlyReg_set (g : RegFile) (r : Reg8) (v : Byte) : OnlyReg g { g.set r v with f := g.f } r v := by
  refine ⟨fun q => ?_, rfl⟩
  rw [← g.get_set r q v]
  cases q <;> rfl

/-- Settles O39: an input puts `State.portVal` into its register, which is what an assumed device model answers. -/
theorem portInstructionsUseOnePort : Obligations.PortInstructionsUseOnePort := by
  intro s n r
  have hv (p : Word) (l : List (Word × Byte)) (h : s.portsAnswer l) : s.portVal p = (l.lookup p).getD 0xFF :=
    s.portVal_of_ports h p
  have hA : ∀ v, OnlyReg s.regs { s.regs with a := v } .a v := onlyReg_set s.regs .a
  exact ⟨⟨s.portVal _, hv _, _, rfl, rfl, hA _⟩,
    ⟨s.portVal _, hv _, _, rfl, rfl, onlyReg_set s.regs r _, rotateFlags_rotateFlags8 _ _⟩,
    ⟨s.portVal _, hv _, _, rfl, rfl, rfl, rotateFlags_rotateFlags8 _ _⟩, rfl, rfl, rfl⟩

end Sys2Proof.Machine
end

section
/-! PROOFS, 30_encoding R300-R313, R340-R344. Reading an instruction's own bytes back: the fields of an encoded opcode, and the fetch unit that
stands behind an instruction's prefix bytes. -/

namespace Sys2Proof.Machine

open Sys2Proof.Claims

/-! ## The fields of an encoded opcode (R301-R308) -/

section
variable {x y z p q : Nat}

theorem opXyz_toNat (hx : x < 4) (hy : y < 8) (hz : z < 8) : (opXyz x y z).toNat = 64 * x + 8 * y + z := by
  rw [opXyz, BitVec.toNat_ofNat]
  omega

@[simp] theorem fieldX_opXyz (hx : x < 4) (hy : y < 8) (hz : z < 8) : fieldX (opXyz x y z) = x := by
  rw [fieldX, opXyz_toNat hx hy hz]
  omega

@[simp] theorem fieldY_opXyz (hx : x < 4) (hy : y < 8) (hz : z < 8) : fieldY (opXyz x y z) = y := by
  rw [fieldY, opXyz_toNat hx hy hz]
  omega

@[simp] theorem fieldZ_opXyz (hx : x < 4) (hy : y < 8) (hz : z < 8) : fieldZ (opXyz x y z) = z := by
  rw [fieldZ, opXyz_toNat hx hy hz]
  omega

/-- Field y as a 3-bit operand (R309, R310). -/
@[simp] theorem fieldB_opXyz (b : BitVec 3) (hx : x < 4) (hz : z < 8) : fieldB (opXyz x b.toNat z) = b := by
  have hb : b.toNat < 8 := b.isLt
  apply BitVec.eq_of_toNat_eq
  rw [fieldB, BitVec.extractLsb'_toNat, opXyz_toNat hx hb hz, Nat.shiftRight_eq_div_pow]
  omega

/-- Fields p and q are the halves of field y. -/
theorem opXpqz_eq (x p q z : Nat) : opXpqz x p q z = opXyz x (2 * p + q) z := by
  unfold opXpqz opXyz
  congr 1
  omega

@[simp] theorem fieldX_opXpqz (hx : x < 4) (hp : p < 4) (hq : q < 2) (hz : z < 8) : fieldX (opXpqz x p q z) = x := by
  rw [opXpqz_eq, fieldX_opXyz hx (by omega) hz]

@[simp] theorem fieldZ_opXpqz (hx : x < 4) (hp : p < 4) (hq : q < 2) (hz : z < 8) : fieldZ (opXpqz x p q z) = z := by
  rw [opXpqz_eq, fieldZ_opXyz hx (by omega) hz]

@[simp] theorem fieldP_opXpqz (hx : x < 4) (hp : p < 4) (hq : q < 2) (hz : z < 8) : fieldP (opXpqz x p q z) = p := by
  rw [opXpqz_eq, fieldP, opXyz_toNat hx (by omega) hz]
  omega

@[simp] theorem fieldQ_opXpqz (hx : x < 4) (hp : p < 4) (hq : q < 2) (hz : z < 8) : fieldQ (opXpqz x p q z) = q := by
  rw [opXpqz_eq, fieldQ, opXyz_toNat hx (by omega) hz]
  omega

end

/-! Each operand's code fits its field, and the field tables give the operand back (R302-R308). -/

@[simp] theorem Reg8.code_lt (r : Reg8) : r.code < 8 := by cases r <;> decide
@[simp] theorem RegX.code_lt (r : RegX) : r.code < 8 := by cases r <;> decide
@[simp] theorem Pair.code_lt (p : Pair) : p.code < 4 := by cases p <;> decide
@[simp] theorem Cond.code_lt (cc : Cond) : cc.code < 8 := by cases cc <;> decide
@[simp] theorem IntMode.code_lt (m : IntMode) : m.code < 8 := by cases m <;> decide
@[simp] theorem toNat_lt_eight (b : BitVec 3) : b.toNat < 8 := b.isLt

@[simp] theorem RegM.code_lt (m : RegM) : m.code < 8 := by
  cases m with
  | reg r => exact Reg8.code_lt r
  | hl => decide

@[simp] theorem regMOf_reg_code (r : Reg8) : regMOf r.code = .reg r := by cases r <;> rfl
@[simp] theorem regMOf_six : regMOf 6 = .hl := rfl
@[simp] theorem regXOf_code (r : RegX) : regXOf r.code = some r := by cases r <;> rfl
@[simp] theorem pairOf_code (p : Pair) : pairOf p.code = p := by cases p <;> rfl
@[simp] theorem condOf_code (cc : Cond) : condOf cc.code = cc := by cases cc <;> rfl
@[simp] theorem imOf_code (m : IntMode) : imOf m.code = m := by cases m <;> rfl

@[simp] theorem regMOf_code (m : RegM) : regMOf m.code = m := by
  cases m with
  | reg r => exact regMOf_reg_code r
  | hl => rfl

/-- The operand field of R302 reads no register of R418 as memory. -/
theorem regMOf_regX_code (r : RegX) : ∃ q, regMOf r.code = .reg q := by cases r <;> exact ⟨_, rfl⟩

/-! ## An instruction's own unit -/

/-- The bytes that lead to a context, before the unit that is read in it (R320, R323, R326, R327). -/
def contextBytes : Context → List Byte
  | .plain => []
  | .cb => [0xCB]
  | .ed => [0xED]
  | .idx x => [x.byte]
  | .idxCb x d => [x.byte, 0xCB, d]

/-- The fetch units of these bytes (R321): DD CB d is two. -/
def unitsBefore : Context → Nat
  | .plain => 0
  | .cb => 1
  | .ed => 1
  | .idx _ => 1
  | .idxCb _ _ => 2

/-- The bytes of `i` lead to context `c`, and there its own unit begins with `op` and `tail`: whatever bytes come after, it stands for `i`
and takes all of them but those it leaves to the next unit (R325). -/
structure ReadsAs (i : Instr) (c : Context) (op : Byte) (tail : List Byte) (len : Nat) : Prop where
  bytes : encode i = contextBytes c ++ op :: tail
  count : unitCount (encode i) = unitsBefore c + 1
  unit : ∀ rest, decodeUnit c op ((tail ++ rest).getD 0 0) ((tail ++ rest).getD 1 0) = ⟨i, len⟩
  len_le : len ≤ tail.length + 1
  left : (op :: tail).drop len = leftOver i

/-- The bytes of `i` end in its own unit. -/
def ReadsBack (i : Instr) : Prop := ∃ c op tail len, ReadsAs i c op tail len

/-- An instruction that ends its fetch phase leaves no byte of its own. -/
theorem leftOver_of_last {i : Instr} (h : nextContext i = none) : leftOver i = [] := by
  unfold leftOver
  split
  · cases h
  · rfl

/-- A prefix byte is no instruction in context `none`. -/
theorem not_prefix_of_last {op b1 b2 : Byte} (h : nextContext (decodePlain op b1 b2).instr = none) :
    ¬(op = 0xCB ∨ op = 0xED) ∧ ¬(op = 0xDD ∨ op = 0xFD) := by
  constructor <;> rintro (rfl | rfl) <;> cases h

theorem not_cb_of_last {x : Idx} {op b1 b2 : Byte} (h : nextContext (decodeIdx x op b1 b2).instr = none) : op ≠ 0xCB := by
  rintro rfl
  cases h

/-- R300: the bytes of any row are one to four. -/
theorem encode_length (i : Instr) : Laws.Length.Statement i := by cases i <;> exact .of_check rfl

/-- The statements count one unit more than the prefix bytes have. -/
theorem unitCount_of_last {i : Instr} {c : Context} {op b1 b2 : Byte} {tail : List Byte} (he : encode i = contextBytes c ++ op :: tail)
    (hl : nextContext i = none) (hu : (decodeUnit c op b1 b2).instr = i) : unitCount (encode i) = unitsBefore c + 1 := by
  subst hu
  have h4 := (encode_length (decodeUnit c op b1 b2).instr).2
  rw [he] at h4 ⊢
  cases c with
  | plain =>
    obtain ⟨h1, h2⟩ := not_prefix_of_last hl
    cases tail with
    | nil => rfl
    | cons b tail => exact (if_neg h1).trans (if_neg h2)
  | cb | ed => rfl
  | idx x =>
    have hc : unitCount (x.byte :: op :: tail) = if op = 0xCB ∧ tail.length = 2 then 3 else 2 := by cases x <;> rfl
    exact hc.trans (if_neg fun h => not_cb_of_last hl h.1)
  | idxCb x d =>
    cases tail with
    | nil => cases x <;> rfl
    | cons b tail =>
      simp only [contextBytes, List.length_append, List.length_cons] at h4
      omega

/-- Any instruction that ends its fetch phase: its own unit takes all its bytes. -/
theorem ReadsBack.last {i : Instr} {op : Byte} {tail : List Byte} (c : Context) (he : encode i = contextBytes c ++ op :: tail)
    (hl : nextContext i = none)
    (hu : ∀ rest, decodeUnit c op ((tail ++ rest).getD 0 0) ((tail ++ rest).getD 1 0) = ⟨i, tail.length + 1⟩) : ReadsBack i :=
  ⟨c, op, tail, tail.length + 1, he, unitCount_of_last he hl (congrArg FetchUnit.instr (hu [])), hu, Nat.le_refl _,
    (List.drop_length (l := op :: tail)).trans (leftOver_of_last hl).symm⟩

/-- The same with a 16-bit immediate after the opcode (R203, R313). -/
theorem ReadsBack.lastWord (f : Word → Instr) {op : Byte} (nn : Word) (c : Context) (he : encode (f nn) = contextBytes c ++ op :: leBytes nn)
    (hl : nextContext (f nn) = none) (hu : ∀ lo hi, decodeUnit c op lo hi = ⟨f (word hi lo), 3⟩) : ReadsBack (f nn) :=
  .last c he hl fun _ => (hu _ _).trans (congrArg (fun w => FetchUnit.mk (f w) 3) (word_hiByte_loByte nn))

/-- A unit of at most one byte is settled by that byte (R321). -/
theorem decodeUnit_of_len_le_one {c : Context} {op : Byte} {u : FetchUnit} (h : decodeUnit c op 0 0 = u) (hu : u.len ≤ 1)
    (b1 b2 : Byte) : decodeUnit c op b1 b2 = u := by
  subst h
  exact (decodeUnit_congr (fun h1 => by omega) (fun h2 => by omega)).symm

/-- An ED opcode without a mapping (R342, R1106). -/
theorem decodeED_of_unmapped {op : Byte} (h : edUnmapped op = true) (b1 b2 : Byte) : decodeED op b1 b2 = ⟨.edUndefined op, 1⟩ := by
  have h0 : ∀ op, edUnmapped op = true → decodeUnit .ed op 0 0 = ⟨.edUndefined op, 1⟩ := by decide
  exact decodeUnit_of_len_le_one (h0 op h) (Nat.le_refl 1) b1 b2

/-- An opcode that DD/FD does not affect, and that is no prefix (R325, R343). -/
theorem decodeIdx_of_ignored {x : Idx} {op : Byte} (h : (Instr.ignoredPrefix x op).wf = true) (b1 b2 : Byte) :
    decodeIdx x op b1 b2 = ⟨.ignoredPrefix x op, 0⟩ := by
  have h0 : ∀ op, (Instr.ignoredPrefix x op).wf = true → decodeUnit (.idx x) op 0 0 = ⟨.ignoredPrefix x op, 0⟩ := by
    cases x <;> decide
  exact decodeUnit_of_len_le_one (h0 op h) (Nat.zero_le 1) b1 b2

/-- Every well-formed row is read back from its bytes, map by map (R340-R344). -/
theorem readsBack (i : Instr) (h : i.wf = true) : ReadsBack i := by
  cases i with
  -- R340
  | nop | ldBcA | ldDeA | incHl | decHl | rlca | rrca | rla | rra | daa | cpl | scf | ccf | exAfAf | ldABc | ldADe =>
    exact .last .plain rfl rfl fun _ => rfl
  | halt | ret | exx | exSpHl | jpHl | exDeHl | di | ldSpHl | ei => exact .last .plain rfl rfl fun _ => rfl
  | ldHlN | djnz | jr | outNA | inAN => exact .last .plain rfl rfl fun _ => rfl
  | addAN | adcAN | subN | sbcAN | andN | xorN | orN | cpN => exact .last .plain rfl rfl fun _ => rfl
  | incSs | decSs | addHlSs | incR | decR | ldRN => exact .last .plain rfl rfl fun _ => by simp [decodeUnit, decodePlain, decodeX0]
  | jrCc cc => exact .last .plain rfl rfl fun _ => by cases cc <;> rfl
  | ldRR | ldRHl | ldHlR => exact .last .plain rfl rfl fun _ => by simp [decodeUnit, decodePlain, decodeX1]
  | addAS | adcAS | subS | sbcAS | andS | xorS | orS | cpS =>
    exact .last .plain rfl rfl fun _ => by simp [decodeUnit, decodePlain, decodeAluS]
  | retCc | rst => exact .last .plain rfl rfl fun _ => by simp [decodeUnit, decodePlain, decodeX3]
  | popQq q | pushQq q => exact .last .plain rfl rfl fun _ => by cases q <;> rfl
  | ldDdNn p => exact .lastWord (.ldDdNn p) _ .plain rfl rfl fun _ _ => by simp [decodeUnit, decodePlain, decodeX0]
  | ldNnHl => exact .lastWord .ldNnHl _ .plain rfl rfl fun _ _ => rfl
  | ldNnA => exact .lastWord .ldNnA _ .plain rfl rfl fun _ _ => rfl
  | ldHlInd => exact .lastWord .ldHlInd _ .plain rfl rfl fun _ _ => rfl
  | ldANn => exact .lastWord .ldANn _ .plain rfl rfl fun _ _ => rfl
  | jpNn => exact .lastWord .jpNn _ .plain rfl rfl fun _ _ => rfl
  | callNn => exact .lastWord .callNn _ .plain rfl rfl fun _ _ => rfl
  | jpCcNn cc => exact .lastWord (.jpCcNn cc) _ .plain rfl rfl fun _ _ => by simp [decodeUnit, decodePlain, decodeX3]
  | callCcNn cc => exact .lastWord (.callCcNn cc) _ .plain rfl rfl fun _ _ => by simp [decodeUnit, decodePlain, decodeX3]
  | prefixCB | prefixED => exact ⟨.plain, _, [], 1, rfl, rfl, fun _ => rfl, Nat.le_refl 1, rfl⟩
  | prefixIdx x => cases x <;> exact ⟨.plain, _, [], 1, rfl, rfl, fun _ => rfl, Nat.le_refl 1, rfl⟩
  -- R341
  | rlcM | rrcM | rlM | rrM | slaM | sraM | sllM | srlM => exact .last .cb rfl rfl fun _ => by simp [decodeUnit, decodeCB]
  | bitBR | bitBHl | resBR | resBHl | setBR | setBHl => exact .last .cb rfl rfl fun _ => by simp [decodeUnit, decodeCB]
  -- R342
  | inFC | outC0 | neg | retn | reti | ldIA | ldRA | ldAI | ldAR | rrd | rld => exact .last .ed rfl rfl fun _ => rfl
  | ldi | cpi | ini | outi | ldd | cpd | ind | outd => exact .last .ed rfl rfl fun _ => rfl
  | ldir | cpir | inir | otir | lddr | cpdr | indr | otdr => exact .last .ed rfl rfl fun _ => rfl
  | inRC | outCR | sbcHlSs | adcHlSs | imM => exact .last .ed rfl rfl fun _ => by simp [decodeUnit, decodeED, decodeED1]
  | ldNnDd p => exact .lastWord (.ldNnDd p) _ .ed rfl rfl fun _ _ => by simp [decodeUnit, decodeED, decodeED1]
  | ldDdInd p => exact .lastWord (.ldDdInd p) _ .ed rfl rfl fun _ _ => by simp [decodeUnit, decodeED, decodeED1]
  | edUndefined op => exact .last .ed rfl rfl fun _ => decodeED_of_unmapped h _ _
  -- R343
  | incIxy x | decIxy x | incXd x | decXd x | ldXdN x => exact .last (.idx x) rfl rfl fun _ => rfl
  | popIxy x | exSpIxy x | pushIxy x | jpIxy x | ldSpIxy x => exact .last (.idx x) rfl rfl fun _ => rfl
  | addAXd x | adcAXd x | subXd x | sbcAXd x | andXd x | xorXd x | orXd x | cpXd x => exact .last (.idx x) rfl rfl fun _ => rfl
  | addAXh x k | adcAXh x k | subXh x k | sbcAXh x k | andXh x k | xorXh x k | orXh x k | cpXh x k =>
    exact .last (.idx x) rfl rfl fun _ => by cases k <;> rfl
  | incXh x k | decXh x k | ldXhN x k => exact .last (.idx x) rfl rfl fun _ => by cases k <;> rfl
  | addIxyPp x p => exact .last (.idx x) rfl rfl fun _ => by cases p <;> rfl
  | ldRXd x r | ldXdR x _ r => exact .last (.idx x) rfl rfl fun _ => by cases r <;> rfl
  | ldXh x dst src =>
    obtain ⟨r, hr⟩ := regMOf_regX_code dst
    obtain ⟨q, hq⟩ := regMOf_regX_code src
    have hhalf : dst.isHalf = true ∨ src.isHalf = true := by simpa [Instr.wf] using h
    exact .last (.idx x) rfl rfl fun _ => by simp [decodeUnit, decodeIdx, decodeIdx1, hr, hq, hhalf]
  | ldIxyNn x => exact .lastWord (.ldIxyNn x) _ (.idx x) rfl rfl fun _ _ => rfl
  | ldNnIxy x => exact .lastWord (.ldNnIxy x) _ (.idx x) rfl rfl fun _ _ => rfl
  | ldIxyInd x => exact .lastWord (.ldIxyInd x) _ (.idx x) rfl rfl fun _ _ => rfl
  | prefixIdxCB x d => cases x <;> exact ⟨.idx _, _, [d], 2, rfl, rfl, fun _ => rfl, Nat.le_refl 2, rfl⟩
  | overriddenByIdx x x2 => cases x <;> cases x2 <;> exact ⟨.idx _, _, [], 1, rfl, rfl, fun _ => rfl, Nat.le_refl 1, rfl⟩
  | overriddenByEd x => cases x <;> exact ⟨.idx _, _, [], 1, rfl, rfl, fun _ => rfl, Nat.le_refl 1, rfl⟩
  | ignoredPrefix x op =>
    refine ⟨.idx x, op, [], 0, rfl, ?_, fun _ => decodeIdx_of_ignored h _ _, Nat.zero_le 1, rfl⟩
    cases x <;> simp [encode, unitCount, unitsBefore, Idx.byte]
  -- R344
  | rlcXd x d | rrcXd x d | rlXd x d | rrXd x d | slaXd x d | sraXd x d | sllXd x d | srlXd x d =>
    exact .last (.idxCb x d) rfl rfl fun _ => rfl
  | rlcXdR x d | rrcXdR x d | rlXdR x d | rrXdR x d | slaXdR x d | sraXdR x d | sllXdR x d | srlXdR x d =>
    exact .last (.idxCb x d) rfl rfl fun _ => by simp [decodeUnit, decodeIdxCB, decodeRotXd]
  | bitBXd x _ d | resBXd x _ d | setBXd x _ d | resBXdR x _ d | setBXdR x _ d =>
    exact .last (.idxCb x d) rfl rfl fun _ => by simp [decodeUnit, decodeIdxCB]

/-! ## Decoding what was encoded -/

section
variable {c c' : Context} {b : Byte} {bs : List Byte} {u : FetchUnit}

/-- A whole unit that leads nowhere ends the decoding (R321, R328). -/
theorem decodeFrom_last (n : Nat) (hu : decodeUnit c b (bs.getD 0 0) (bs.getD 1 0) = u) (hn : nextContext u.instr = none)
    (hl : u.len ≤ bs.length + 1) : decodeFrom (n + 1) c (b :: bs) = .ok (u.instr, (b :: bs).drop u.len) := by
  simp only [decodeFrom, hu, hn, if_neg (Nat.not_lt_of_le hl)]

/-- A move leads the readers of units on to its context (R321). -/
theorem decodeFrom_move (n : Nat) (hu : decodeUnit c b (bs.getD 0 0) (bs.getD 1 0) = u) (hn : nextContext u.instr = some c')
    (hl : u.len ≤ bs.length + 1) : decodeFrom (n + 1) c (b :: bs) = decodeFrom n c' ((b :: bs).drop u.len) := by
  simp only [decodeFrom, hu, hn, if_neg (Nat.not_lt_of_le hl)]

theorem decodeNth_move (n : Nat) (hu : decodeUnit c b (bs.getD 0 0) (bs.getD 1 0) = u) (hn : nextContext u.instr = some c') :
    decodeNth (n + 2) c (b :: bs) = decodeNth (n + 1) c' ((b :: bs).drop u.len) := by
  subst hu
  simp only [decodeNth, List.getD_cons_zero, List.getD_cons_succ, hn]
  exact if_neg (Nat.succ_ne_zero n)

theorem bytesAfter_move (n : Nat) (hu : decodeUnit c b (bs.getD 0 0) (bs.getD 1 0) = u) (hn : nextContext u.instr = some c') :
    bytesAfter (n + 1) c (b :: bs) = bytesAfter n c' ((b :: bs).drop u.len) := by
  subst hu
  simp only [bytesAfter, List.getD_cons_zero, List.getD_cons_succ, hn]

end

/-- The prefix bytes lead to their context (R320, R323, R326, R327). -/
theorem decodeFrom_contextBytes (n : Nat) (c : Context) (bs : List Byte) :
    decodeFrom (n + unitsBefore c) .plain (contextBytes c ++ bs) = decodeFrom n c bs := by
  cases c with
  | plain | cb | ed => rfl
  | idx x | idxCb x d => cases x <;> rfl

theorem decodeNth_contextBytes (n : Nat) (c : Context) (bs : List Byte) :
    decodeNth (n + 1 + unitsBefore c) .plain (contextBytes c ++ bs) = decodeNth (n + 1) c bs := by
  cases c with
  | plain => rfl
  | cb | ed => exact decodeNth_move n rfl rfl
  | idx x => cases x <;> exact decodeNth_move n rfl rfl
  | idxCb x d => cases x <;> exact (decodeNth_move (n + 1) rfl rfl).trans (decodeNth_move n rfl rfl)

theorem bytesAfter_contextBytes (n : Nat) (c : Context) (bs : List Byte) :
    bytesAfter (n + unitsBefore c) .plain (contextBytes c ++ bs) = bytesAfter n c bs := by
  cases c with
  | plain => rfl
  | cb | ed => exact bytesAfter_move n rfl rfl
  | idx x => cases x <;> exact bytesAfter_move n rfl rfl
  | idxCb x d => cases x <;> exact (bytesAfter_move (n + 1) rfl rfl).trans (bytesAfter_move n rfl rfl)

theorem unitsBefore_le_length (c : Context) : unitsBefore c ≤ (contextBytes c).length := by
  cases c <;> simp [unitsBefore, contextBytes]

namespace ReadsAs

variable {i : Instr} {c : Context} {op : Byte} {tail : List Byte} {len : Nat}

/-- What the unit leaves of these bytes. -/
theorem drop_append (h : ReadsAs i c op tail len) (rest : List Byte) : (op :: (tail ++ rest)).drop len = leftOver i ++ rest := by
  rw [← List.cons_append, List.drop_append_of_le_length h.len_le, h.left]

theorem decodeFrom_own (h : ReadsAs i c op tail len) (hl : nextContext i = none) (n : Nat) (rest : List Byte) :
    decodeFrom (n + 1) c (op :: (tail ++ rest)) = .ok (i, rest) := by
  have hwhole : len ≤ (tail ++ rest).length + 1 := by
    rw [List.length_append]
    exact Nat.le_trans h.len_le (by omega)
  rw [decodeFrom_last n (h.unit rest) hl hwhole, h.drop_append, leftOver_of_last hl, List.nil_append]

theorem decodeNth_own (h : ReadsAs i c op tail len) (rest : List Byte) : decodeNth 1 c (op :: (tail ++ rest)) = some i :=
  congrArg (fun u : FetchUnit => some u.instr) (h.unit rest)

theorem bytesAfter_own (h : ReadsAs i c op tail len) (rest : List Byte) :
    bytesAfter 1 c (op :: (tail ++ rest)) = leftOver i ++ rest := by
  have hu : decodeUnit c op ((op :: (tail ++ rest)).getD 1 0) ((op :: (tail ++ rest)).getD 2 0) = ⟨i, len⟩ := h.unit rest
  rw [← h.drop_append rest]
  simp only [bytesAfter, List.getD_cons_zero, hu]
  split <;> rfl

end ReadsAs

/-- Settles O55: the prefix bytes lead to the context of the instruction's own unit, which takes the rest of its bytes. -/
theorem decodeAfterEncode : Obligations.DecodeAfterEncode := by
  intro i rest hwf hl
  obtain ⟨c, op, tail, len, h⟩ := readsBack i hwf
  have hunits := unitsBefore_le_length c
  obtain ⟨n, hn⟩ : ∃ n, 2 * (encode i ++ rest).length = n + 1 + unitsBefore c := by
    refine ⟨2 * (encode i ++ rest).length - 1 - unitsBefore c, ?_⟩
    simp only [h.bytes, List.length_append, List.length_cons]
    omega
  rw [decode, hn, h.bytes, List.append_assoc, decodeFrom_contextBytes]
  exact h.decodeFrom_own hl n rest

/-- Settles O56: `unitCount` is the unit of the row itself after those of its prefix bytes. -/
theorem prefixMovesRoundTrip : Obligations.PrefixMovesRoundTrip := by
  intro i rest hwf
  obtain ⟨c, op, tail, len, h⟩ := readsBack i hwf
  rw [h.count, Nat.add_comm, h.bytes, List.append_assoc, decodeNth_contextBytes, bytesAfter_contextBytes]
  exact ⟨h.decodeNth_own rest, h.bytesAfter_own rest⟩

end Sys2Proof.Machine
end

section
/-! PROOFS, 30_encoding R300, R322, R328. Decoding is total: each context ends in a well-formed instruction within its bytes. -/

namespace Sys2Proof.Machine

open Sys2Proof.Claims

/-! ## What a unit is: at most three bytes, and well-formed if it ends the fetch phase -/

/-- A unit has at most three bytes, and one that leads nowhere stands for an encoding (R300, R328). -/
def unitSound (u : FetchUnit) : Prop := u.len ≤ 3 ∧ (nextContext u.instr = none → u.instr.wf = true)

/-- A unit whose instruction needs no check. -/
theorem unitSound.of_check {u : FetchUnit} (h : (Nat.ble u.len 3 && u.instr.wf) = true) : unitSound u := by
  rw [Bool.and_eq_true] at h
  exact ⟨Nat.le_of_ble_eq_true h.1, fun _ => h.2⟩

/-- A move of at most three bytes. -/
theorem unitSound.of_move {u : FetchUnit} {c : Context} (hl : u.len ≤ 3) (hn : nextContext u.instr = some c) : unitSound u :=
  ⟨hl, fun h => by rw [hn] at h; cases h⟩

theorem unitSound_decodePlain (op b1 b2 : Byte) : unitSound (decodePlain op b1 b2) := by
  unfold decodePlain
  split
  · simp only [decodeX0]
    split <;> split <;> exact .of_check rfl
  · unfold decodeX1
    split <;> exact .of_check rfl
  · unfold decodeAluS
    split <;> exact .of_check rfl
  · simp only [decodeX3]
    split
    case h_7 =>
      unfold decodeAluN
      split <;> exact .of_check rfl
    case h_2 | h_4 | h_6 => split <;> exact .of_check rfl
    all_goals exact .of_check rfl

theorem unitSound_decodeCB (op : Byte) : unitSound (decodeCB op) := by
  simp only [decodeCB]
  split <;> split <;> exact .of_check rfl

/-- The unmapped ED opcodes by their fields (R342, R1106). -/
theorem edUnmapped_iff (op : Byte) :
    edUnmapped op = true ↔ fieldX op = 0 ∨ fieldX op = 3 ∨ fieldX op = 1 ∧ fieldZ op = 7 ∧ 6 ≤ fieldY op ∨
      fieldX op = 2 ∧ (fieldY op < 4 ∨ 4 ≤ fieldZ op) := by
  revert op
  decide

theorem unitSound_edUndefined {op : Byte} (h : edUnmapped op = true) : unitSound ⟨.edUndefined op, 1⟩ :=
  ⟨Nat.le_of_ble_eq_true rfl, fun _ => h⟩

theorem unitSound_decodeED (op b1 b2 : Byte) : unitSound (decodeED op b1 b2) := by
  have hx : fieldX op < 4 := Nat.div_lt_of_lt_mul op.isLt
  have hy : fieldY op < 8 := Nat.mod_lt _ (by decide)
  have hz : fieldZ op < 8 := Nat.mod_lt _ (by decide)
  unfold decodeED
  split
  case h_1 h1 =>
    simp only [decodeED1]
    split
    case h_8 =>
      split
      case h_7 => exact unitSound_edUndefined ((edUnmapped_iff op).mpr (by grind))
      all_goals exact .of_check rfl
    case h_5 | h_7 => exact .of_check rfl
    all_goals split <;> exact .of_check rfl
  case h_2 h2 =>
    unfold decodeED2
    split
    case h_17 => exact unitSound_edUndefined ((edUnmapped_iff op).mpr (by grind))
    all_goals exact .of_check rfl
  case h_3 => exact unitSound_edUndefined ((edUnmapped_iff op).mpr (by grind))

theorem unitSound_ignoredPrefix (x : Idx) (op : Byte) : unitSound ⟨.ignoredPrefix x op, 0⟩ := .of_move (Nat.zero_le 3) rfl

theorem unitSound_decodeIdx (x : Idx) (op b1 b2 : Byte) : unitSound (decodeIdx x op b1 b2) := by
  unfold decodeIdx
  split
  · unfold decodeIdx0
    split
    case h_19 => exact unitSound_ignoredPrefix x op
    all_goals exact .of_check rfl
  · unfold decodeIdx1
    split
    · exact .of_check rfl
    · exact .of_check rfl
    · split
      · split
        · exact ⟨Nat.le_of_ble_eq_true rfl, fun _ => ‹_›⟩
        · exact unitSound_ignoredPrefix x op
      · exact unitSound_ignoredPrefix x op
  · unfold decodeIdx2 decodeAluXh decodeAluXd
    split
    case h_4 => exact unitSound_ignoredPrefix x op
    all_goals split <;> exact .of_check rfl
  · unfold decodeIdx3
    split
    case h_10 => exact unitSound_ignoredPrefix x op
    all_goals exact .of_check rfl

theorem unitSound_decodeIdxCB (x : Idx) (d op : Byte) : unitSound (decodeIdxCB x d op) := by
  simp only [decodeIdxCB]
  split
  · unfold decodeRotXd
    split <;> split <;> exact .of_check rfl
  · exact .of_check rfl
  · split <;> exact .of_check rfl
  · split <;> exact .of_check rfl

/-- Every unit is sound. -/
theorem unitSound_decodeUnit (c : Context) (b0 b1 b2 : Byte) : unitSound (decodeUnit c b0 b1 b2) := by
  cases c with
  | plain => exact unitSound_decodePlain _ _ _
  | cb => exact unitSound_decodeCB _
  | ed => exact unitSound_decodeED _ _ _
  | idx x => exact unitSound_decodeIdx _ _ _ _
  | idxCb x d => exact unitSound_decodeIdxCB _ _ _

/-! ## Which units end a fetch phase -/

theorem nextContext_decodeCB (op : Byte) : nextContext (decodeCB op).instr = none := by
  simp only [decodeCB]
  split <;> split <;> rfl

theorem nextContext_decodeED (op b1 b2 : Byte) : nextContext (decodeED op b1 b2).instr = none := by
  unfold decodeED
  split
  · simp only [decodeED1]
    split
    case h_5 | h_7 => rfl
    all_goals split <;> rfl
  · unfold decodeED2
    split <;> rfl
  · rfl

theorem nextContext_decodeIdxCB (x : Idx) (d op : Byte) : nextContext (decodeIdxCB x d op).instr = none := by
  simp only [decodeIdxCB]
  split
  · unfold decodeRotXd
    split <;> split <;> rfl
  · rfl
  · split <;> rfl
  · split <;> rfl

/-- After DD or FD a byte that is no prefix ends the fetch phase, or is what the prefix is ignored for (R325, R343). -/
theorem decodeIdx_last_or_ignored {x : Idx} {op : Byte} (h : ¬(op = 0xCB ∨ op = 0xDD ∨ op = 0xED ∨ op = 0xFD)) (b1 b2 : Byte) :
    nextContext (decodeIdx x op b1 b2).instr = none ∨ decodeIdx x op b1 b2 = ⟨.ignoredPrefix x op, 0⟩ := by
  unfold decodeIdx
  split
  · unfold decodeIdx0
    split
    case h_19 => exact .inr rfl
    all_goals exact .inl rfl
  · unfold decodeIdx1
    split
    · exact .inl rfl
    · exact .inl rfl
    · split
      · split
        · exact .inl rfl
        · exact .inr rfl
      · exact .inr rfl
  · unfold decodeIdx2 decodeAluXh decodeAluXd
    split
    case h_4 => exact .inr rfl
    all_goals split <;> exact .inl rfl
  · unfold decodeIdx3
    split
    case h_10 => exact .inr rfl
    case h_1 hop | h_2 hop | h_7 hop | h_9 hop => exact absurd (by simp [← BitVec.toNat_inj, hop]) h
    all_goals exact .inl rfl

/-! ## Chains of DD and FD (R322) -/

/-- The contexts in which a DD or FD byte goes on a chain. -/
def ChainContext (c : Context) : Prop := c = .plain ∨ ∃ x, c = .idx x

/-- A DD or FD byte is a unit of its own that selects its index register, whatever was selected before (R320, R322). -/
theorem decodeUnit_of_chain {c : Context} {p : Byte} (hc : ChainContext c) (hp : p = 0xDD ∨ p = 0xFD) :
    ∃ u x, (∀ b1 b2, decodeUnit c p b1 b2 = u) ∧ u.len = 1 ∧ nextContext u.instr = some (.idx x) := by
  rcases hc with rfl | ⟨y, rfl⟩ <;> rcases hp with rfl | rfl <;> exact ⟨_, _, fun _ _ => rfl, rfl, rfl⟩

theorem decodeFrom_chain_byte {c : Context} {p : Byte} (hc : ChainContext c) (hp : p = 0xDD ∨ p = 0xFD) :
    ∃ x, ∀ (n : Nat) (bs : List Byte), decodeFrom (n + 1) c (p :: bs) = decodeFrom n (.idx x) bs := by
  obtain ⟨u, x, hu, hlen, hn⟩ := decodeUnit_of_chain hc hp
  refine ⟨x, fun n bs => ?_⟩
  rw [decodeFrom_move n (hu _ _) hn (by omega), hlen]
  rfl

/-- A chain of at least one byte leads to the context of its last. -/
theorem decodeFrom_chain {c : Context} {p : Byte} {chain : List Byte} (hc : ChainContext c) (hp : ∀ q ∈ p :: chain, q = 0xDD ∨ q = 0xFD) :
    ∃ x, ∀ (n : Nat) (bs : List Byte), decodeFrom (n + (p :: chain).length) c (p :: chain ++ bs) = decodeFrom n (.idx x) bs := by
  induction chain generalizing c p with
  | nil => exact decodeFrom_chain_byte hc (hp p List.mem_cons_self)
  | cons q chain ih =>
    obtain ⟨x, hx⟩ := decodeFrom_chain_byte hc (hp p List.mem_cons_self)
    obtain ⟨y, hy⟩ := ih (.inr ⟨x, rfl⟩) fun r hr => hp r (List.mem_cons_of_mem _ hr)
    exact ⟨y, fun n bs => (hx (n + (q :: chain).length) (q :: chain ++ bs)).trans (hy n bs)⟩

/-! ## Every context ends in an instruction -/

/-- Within n units and m bytes from context `c` the bytes hold a whole well-formed instruction (R328). -/
def HoldsInstr (n : Nat) (c : Context) (bs : List Byte) (m : Nat) : Prop :=
  ∃ i k, decodeFrom n c bs = .ok (i, bs.drop k) ∧ i.wf = true ∧ nextContext i = none ∧ 0 < k ∧ k ≤ m

namespace HoldsInstr

variable {n m : Nat} {c c' : Context} {b : Byte} {bs : List Byte}

theorem mono {l : Nat} (h : HoldsInstr n c bs l) (hl : l ≤ m) : HoldsInstr n c bs m := by
  obtain ⟨i, k, hd, hwf, hn, h0, hk⟩ := h
  exact ⟨i, k, hd, hwf, hn, h0, Nat.le_trans hk hl⟩

/-- A unit that leads nowhere is the whole. -/
theorem last (hn : nextContext (decodeUnit c b (bs.getD 0 0) (bs.getD 1 0)).instr = none)
    (hm : (decodeUnit c b (bs.getD 0 0) (bs.getD 1 0)).len ≤ m) (hl : m ≤ bs.length + 1) : HoldsInstr (n + 1) c (b :: bs) m :=
  ⟨_, _, decodeFrom_last n rfl hn (Nat.le_trans hm hl), (unitSound_decodeUnit c b _ _).2 hn, hn,
    Nat.pos_of_ne_zero (unit_size_of_last rfl hn).1, hm⟩

/-- Three bytes hold any unit. -/
theorem last_of_three (hn : nextContext (decodeUnit c b (bs.getD 0 0) (bs.getD 1 0)).instr = none) (hl : 2 ≤ bs.length) :
    HoldsInstr (n + 1) c (b :: bs) 3 :=
  last hn (unitSound_decodeUnit c b _ _).1 (Nat.succ_le_succ hl)

/-- A move leaves the rest to the next context. -/
theorem move {u : FetchUnit} (hu : decodeUnit c b (bs.getD 0 0) (bs.getD 1 0) = u) (hn : nextContext u.instr = some c')
    (hl : u.len ≤ bs.length + 1) (h : HoldsInstr n c' ((b :: bs).drop u.len) m) : HoldsInstr (n + 1) c (b :: bs) (u.len + m) := by
  obtain ⟨i, k, hd, hwf, hi, h0, hk⟩ := h
  refine ⟨i, u.len + k, ?_, hwf, hi, by omega, by omega⟩
  rw [decodeFrom_move n hu hn hl, hd, List.drop_drop]

theorem cb (hl : 3 ≤ bs.length) : HoldsInstr (n + 1) .cb bs 3 := by
  cases bs with
  | nil => cases hl
  | cons b bs => exact last_of_three (nextContext_decodeCB b) (Nat.le_of_succ_le_succ hl)

theorem ed (hl : 3 ≤ bs.length) : HoldsInstr (n + 1) .ed bs 3 := by
  cases bs with
  | nil => cases hl
  | cons b bs => exact last_of_three (nextContext_decodeED b _ _) (Nat.le_of_succ_le_succ hl)

/-- After DD CB d an instruction is one more byte (R323, R344). -/
theorem idxCb {x : Idx} {d : Byte} : HoldsInstr (n + 1) (.idxCb x d) (b :: bs) 1 := by
  have hn := nextContext_decodeIdxCB x d b
  obtain ⟨-, hsize, -⟩ := unit_size_of_last (c := .idxCb x d) (b1 := bs.getD 0 0) (b2 := bs.getD 1 0) rfl hn
  have h4 := (encode_length (decodeIdxCB x d b).instr).2
  refine last hn ?_ (Nat.succ_le_succ (Nat.zero_le _))
  simp only [bytesBefore, decodeUnit] at hsize ⊢
  omega

/-- A byte that is no prefix begins an instruction of its own (R340). -/
theorem plain_of_not_prefix (hb : ¬(b = 0xCB ∨ b = 0xDD ∨ b = 0xED ∨ b = 0xFD)) (hl : 2 ≤ bs.length) :
    HoldsInstr (n + 1) .plain (b :: bs) 3 :=
  last_of_three (by_contra fun h => hb (prefix_of_decodePlain h)) hl

/-- In context `none`, a byte other than DD and FD. -/
theorem plain (hdd : b ≠ 0xDD) (hfd : b ≠ 0xFD) (hl : 3 ≤ bs.length) : HoldsInstr (n + 2) .plain (b :: bs) 4 := by
  by_cases hcb : b = 0xCB
  · subst hcb
    exact move (u := ⟨.prefixCB, 1⟩) rfl rfl (Nat.le_add_left 1 _) (cb hl)
  by_cases hed : b = 0xED
  · subst hed
    exact move (u := ⟨.prefixED, 1⟩) rfl rfl (Nat.le_add_left 1 _) (ed hl)
  have hb : ¬(b = 0xCB ∨ b = 0xDD ∨ b = 0xED ∨ b = 0xFD) := by tauto
  exact (plain_of_not_prefix hb (by omega)).mono (by decide)

/-- After DD or FD, a byte that does not override it: the prefix counts among the four bytes (R320, R322). -/
theorem idx {x : Idx} (hdd : b ≠ 0xDD) (hed : b ≠ 0xED) (hfd : b ≠ 0xFD) (hl : 3 ≤ bs.length) : HoldsInstr (n + 2) (.idx x) (b :: bs) 3 := by
  by_cases hcb : b = 0xCB
  · subst hcb
    match bs, hl with
    | d :: op :: bs, _ => exact move (bs := d :: op :: bs) (u := ⟨.prefixIdxCB x d, 2⟩) rfl rfl (Nat.le_add_left 2 _) idxCb
  have hb : ¬(b = 0xCB ∨ b = 0xDD ∨ b = 0xED ∨ b = 0xFD) := by tauto
  rcases decodeIdx_last_or_ignored (x := x) hb (bs.getD 0 0) (bs.getD 1 0) with hn | hu
  · exact last_of_three hn (by omega)
  · exact move (c := .idx x) hu rfl (Nat.zero_le _) (plain_of_not_prefix hb (by omega))

/-- After DD or FD, an ED byte: the prefix is discarded (R322). -/
theorem idx_ed {x : Idx} (hl : 3 ≤ bs.length) : HoldsInstr (n + 2) (.idx x) (0xED :: bs) 4 :=
  move (u := ⟨.overriddenByEd x, 1⟩) rfl rfl (Nat.le_add_left 1 _) (ed hl)

/-- What the bytes after a chain hold, the chain and they hold. -/
theorem decode_append {l : Nat} {chain : List Byte} (h : ∀ n, HoldsInstr (n + 2) c bs m)
    (hlead : ∀ n, decodeFrom (n + chain.length) .plain (chain ++ bs) = decodeFrom n c bs) (hb : 1 ≤ bs.length)
    (hm : chain.length + m ≤ l) :
    ∃ i tail k, decode (chain ++ bs) = .ok (i, tail) ∧ i.wf = true ∧ nextContext i = none ∧ tail = (chain ++ bs).drop k ∧
      chain.length < k ∧ k ≤ l := by
  obtain ⟨n, hn⟩ : ∃ n, 2 * (chain ++ bs).length = n + 2 + chain.length := by
    refine ⟨2 * (chain ++ bs).length - chain.length - 2, ?_⟩
    rw [List.length_append]
    omega
  obtain ⟨i, k, hd, hwf, hi, h0, hk⟩ := h n
  refine ⟨i, bs.drop k, chain.length + k, ?_, hwf, hi, (List.drop_length_add_append k).symm, by omega, by omega⟩
  rw [decode, hn, hlead, hd]

end HoldsInstr

/-- Settles O57: the chain leads to the context of its last byte, where the rest holds an instruction. -/
theorem decodingIsTotal : Obligations.DecodingIsTotal := by
  intro chain rest b hchain hdd hfd hlen
  have hb : 1 ≤ (b :: rest).length := Nat.le_add_left 1 _
  cases chain with
  | nil => exact HoldsInstr.decode_append (chain := []) (fun _ => .plain hdd hfd hlen) (fun _ => rfl) hb (by simp)
  | cons p chain =>
    obtain ⟨x, hlead⟩ := decodeFrom_chain (.inl rfl) hchain
    by_cases hed : b = 0xED
    · subst hed
      exact HoldsInstr.decode_append (fun _ => .idx_ed hlen) (fun n => hlead n _) hb (by simp; omega)
    · exact HoldsInstr.decode_append (fun _ => .idx hdd hed hfd hlen) (fun n => hlead n _) hb (by simp only [List.length_cons, if_neg hed]; omega)

end Sys2Proof.Machine
end

section
/-! PROOFS, 30_encoding R322, 70_reset R1460. A step that meets only DD and FD bytes: every fetch unit is one byte and goes on the chain. -/

namespace Sys2Proof.Machine

open Sys2Proof.Claims

/-- Every address is plain RAM and holds a DD or FD byte. -/
def State.AllPrefixes (s : State) : Prop :=
  ∀ a : Word, s.isRam a = true ∧ (memRead s.mem a.toNat = 0xDD ∨ memRead s.mem a.toNat = 0xFD)

/-- Fetches leave it so. -/
theorem State.Fetched.allPrefixes {s t : State} {bs : List Byte} {m cyc : Nat} {c : Option Context} (h : s.Fetched bs m cyc c t)
    (ha : s.AllPrefixes) : t.AllPrefixes := by
  obtain ⟨ev, rfl, -⟩ := h
  exact ha

/-- One unit of the chain: a byte is fetched by an opcode fetch, and the phase goes on in the context of its index register (R322). -/
theorem runInstr_of_chain {s : State} {c : Context} (hs : s.AllPrefixes) (hc : ChainContext c) :
    ∃ b k x t, runInstr (s.unitAt c).instr (s.fetchUnit c) = .next t ∧ s.Fetched [b] 1 k (some (.idx x)) t := by
  obtain ⟨hram, hbyte⟩ := hs s.pc
  obtain ⟨u, x, hu, hlen, hn⟩ := decodeUnit_of_chain hc hbyte
  have hb : s.holdsBytes s.pc [memRead s.mem s.pc.toNat] := ⟨⟨hram, rfl⟩, trivial⟩
  have hunit : s.unitAt c = u := (State.unitAt_of_holdsBytes hb (by rw [hu, hlen]; rfl)).trans (hu _ _)
  have hf := State.Fetched.fetchUnit (c := c) hb (by rw [hunit, hlen]; rfl)
  have hm1 : unitM1 c 1 = 1 := by rcases hc with rfl | ⟨y, rfl⟩ <;> rfl
  rw [hunit, hlen, hm1] at hf
  exact ⟨_, _, x, _, hunit ▸ runInstr_of_move _ hn, hf.move _ _⟩

/-- Any number of units, but none is the last: each fetches one byte and counts R once. -/
theorem runUnits_of_chain (n : Nat) {s : State} {c : Context} (hs : s.AllPrefixes) (hf : s.fetching = some c) (hc : ChainContext c) :
    ∃ bs k x t, runUnits (n + 1) s = .next t ∧ bs.length = n + 1 ∧ s.Fetched bs (n + 1) k (some (.idx x)) t := by
  induction n generalizing s c with
  | zero =>
    obtain ⟨b, k, x, t, hr, ht⟩ := runInstr_of_chain hs hc
    exact ⟨[b], k, x, t, runUnits_succ 0 hf hr, rfl, ht⟩
  | succ n ih =>
    obtain ⟨b, k, x, t, hr, ht⟩ := runInstr_of_chain hs hc
    obtain ⟨bs, l, y, u, hr', hlen, hu⟩ := ih (ht.allPrefixes hs) ht.fetching_eq (.inr ⟨x, rfl⟩)
    refine ⟨b :: bs, k + l, y, u, (runUnits_succ (n + 1) hf hr).trans hr', congrArg (· + 1) hlen, ?_⟩
    rw [Nat.add_comm (n + 1) 1]
    exact ht.trans hu

/-- Settles O60: the step is the loop over units from the boundary or from the middle of the chain, and takes all the units a model step
may. -/
theorem endlessPrefixChainNeverCompletes : Obligations.EndlessPrefixChainNeverCompletes := by
  intro s hboundary hchain hs
  obtain ⟨n, hn⟩ : ∃ n, Config.maxUnits = n + 1 := ⟨65599, rfl⟩
  rw [hn]
  cases hf : s.fetching with
  | some c =>
    obtain ⟨bs, k, x, t, hr, hlen, ev, ht, -⟩ := runUnits_of_chain n hs hf (.inr (hchain c hf))
    refine ⟨t, x, ?_, ?_⟩
    · simp only [step, coreStep, hf, hn, hr]
    · rw [ht, hlen]; simp
  | none =>
    obtain ⟨hnmi, hdue, hh⟩ := hboundary hf
    have ha : ¬s.intAccepted = true := mt (intAccepted_iff hf hnmi).mp hdue
    obtain ⟨bs, k, x, t, hr, hlen, ev, ht, -⟩ := runUnits_of_chain n (s := s.beginStep.setFetching (some .plain)) hs rfl (.inl rfl)
    refine ⟨t, x, ?_, ?_⟩
    · simp [step, coreStep, executeStep, hf, hnmi, ha, hh, hn, hr]
    · rw [ht, hlen]; simp [State.beginStep]

end Sys2Proof.Machine
end

section
/-! PROOFS, 30_encoding R312, R320-R327, R340-R344 and 46_jump_call_return R1000-R1006. The jumps, the prefix rows as moves, and words of the
opcode maps. -/

namespace Sys2Proof.Machine

open Sys2Proof.Claims

/-- The conditions of JR in the statements are the model's (R305). -/
theorem holdsJr_eq (cj : CondJr) (f : Byte) : holdsJr cj f = condHolds (jrCond cj) f := by
  cases cj <;> simp [holdsJr, jrCond, condHolds, zFlag, cFlag]

/-- DJNZ lowers B, and jumps while it is not 0 (R1004). -/
theorem execDjnz_eq (e : Byte) (s : State) :
    execDjnz e s = .next { s with
      regs := { s.regs with b := s.regs.b - 1 }, pc := if s.regs.b - 1 = 0 then s.pc else s.rel e
      cycles := s.cycles + if s.regs.b - 1 = 0 then 8 else 13 } := by
  by_cases hz : s.regs.b - 1 = 0
  · rw [if_pos hz, if_pos hz]
    exact if_pos hz
  · rw [if_neg hz, if_neg hz]
    exact if_neg hz

/-- Settles O34: a jump is `setPc` and `tick`, by the condition where it has one. -/
theorem jumpsWritePc : Obligations.JumpsWritePc := by
  intro s cc cj nn e x
  rw [holds_eq, holdsJr_eq, relative_eq]
  refine ⟨rfl, ?_, rfl, ?_, rfl, rfl, ?_⟩
  · simp only [exec, execJpCcNn]
    split <;> rfl
  · simp only [exec, execJrCc]
    split <;> rfl
  · have hb : BitVec.ofNat 8 ((s.regs.b.toNat + 255) % 256) = s.regs.b - 1 := by bv_omega
    have h0 : (s.regs.b.toNat + 255) % 256 = 0 ↔ s.regs.b - 1 = 0 := by bv_omega
    simp only [hb, h0]
    exact execDjnz_eq e s

/-- Settles O38: each prefix row is `setFetching`, and 4 T-states for a prefix that is discarded or ignored. -/
theorem prefixMovesOnlyChangeContext : Obligations.PrefixMovesOnlyChangeContext := by
  intro s x x2 d op
  exact ⟨rfl, rfl, rfl, rfl, rfl, rfl, rfl⟩

/-- Settles O58: each word is decoded unit by unit. -/
theorem wordsOfTheMapsDecode : Obligations.WordsOfTheMapsDecode := by
  intro p hp
  fin_cases hp <;> rfl

end Sys2Proof.Machine
end

section
/-! PROOFS. The shapes of the statements (`RunsRegs`, `RunsMem`, `RunsIdx`) from the shape of a meaning: an operand access, then one
register written or one store. -/

namespace Sys2Proof.Machine

open Sys2Proof.Claims

variable {i : Instr} {s : State} {n : Nat} {a : Word}

/-! ## What the accesses and the writes keep -/

@[simp] theorem State.readDone_regs (s : State) (a : Word) : (s.readDone a).regs = s.regs := by rw [readDone_eq]

/-- Writing an index register changes IX or IY alone (10_state R104). -/
theorem State.setIdx_frame (s : State) (x : Idx) (v : Word) :
    s.setIdx x v = { s with ix := (s.setIdx x v).ix, iy := (s.setIdx x v).iy } := by
  cases x <;> rfl

/-- Writing a pair changes the general registers or SP alone (30_encoding R303). -/
theorem State.setPair_frame (s : State) (p : Pair) (v : Word) :
    s.setPair p v = { s with regs := (s.setPair p v).regs, sp := (s.setPair p v).sp } := by
  cases p <;> rfl

/-- Writing a pair keeps A and F (30_encoding R303). -/
theorem State.setPair_keeps_af (s : State) (p : Pair) (v : Word) :
    (s.setPair p v).regs.a = s.regs.a ∧ (s.setPair p v).regs.f = s.regs.f := by
  cases p <;> exact ⟨rfl, rfl⟩

/-- Writing a pair of PUSH and POP changes main registers alone (30_encoding R304). -/
theorem State.setPairQ_frame (s : State) (q : PairQ) (v : Word) :
    s.setPairQ q v = { s with regs := (s.setPairQ q v).regs } := by
  cases q <;> rfl

/-- A written half reads back, and the other one is kept (10_state R104). -/
theorem State.getHalf_setHalf (s : State) (x : Idx) (k j : Half) (v : Byte) :
    (s.setHalf x k v).getHalf x j = if k = j then v else s.getHalf x j := by
  cases k <;> cases j <;> simp [State.setHalf, State.getHalf, State.getIdx_setIdx]

/-- Writing a half leaves the other index register alone. -/
theorem State.getIdx_setHalf_ne {x y : Idx} (h : y ≠ x) (s : State) (k : Half) (v : Byte) : (s.setHalf x k v).getIdx y = s.getIdx y := by
  cases k <;> simp [State.setHalf, State.getIdx_setIdx, h]

/-- Writing a half changes IX or IY alone. -/
theorem State.setHalf_frame (s : State) (x : Idx) (k : Half) (v : Byte) :
    s.setHalf x k v = { s with ix := (s.setHalf x k v).ix, iy := (s.setHalf x k v).iy } := by
  cases k <;> exact s.setIdx_frame x _

/-- A written operand of R418 is a half of the index register, or a main register that is neither H nor L. -/
theorem State.setRegX_cases (s : State) (x : Idx) (r : RegX) (v : Byte) :
    (∃ k, s.setRegX x r v = s.setHalf x k v) ∨ ∃ q, q ≠ .h ∧ q ≠ .l ∧ s.setRegX x r v = s.setReg q v := by
  cases r
  case xh => exact .inl ⟨.high, rfl⟩
  case xl => exact .inl ⟨.low, rfl⟩
  all_goals exact .inr ⟨_, by decide, by decide, rfl⟩

/-- A written operand of R418 reads back, and every other one is kept. -/
theorem State.getRegX_setRegX (s : State) (x : Idx) (r q : RegX) (v : Byte) :
    (s.setRegX x r v).getRegX x q = if q = r then v else s.getRegX x q := by
  have half (k j : Half) := s.getHalf_setHalf x k j v
  cases r
  case xh | xl => cases q <;> simp [State.setRegX, State.getRegX, half] <;> rw [State.setHalf_frame]
  all_goals cases q <;> rfl

/-- Writing an operand of R418 keeps H, L, F and the other index register. -/
theorem State.setRegX_keeps (s : State) (x : Idx) (r : RegX) (v : Byte) :
    (s.setRegX x r v).regs.h = s.regs.h ∧ (s.setRegX x r v).regs.l = s.regs.l ∧ (s.setRegX x r v).regs.f = s.regs.f ∧
      ∀ y, y ≠ x → (s.setRegX x r v).getIdx y = s.getIdx y := by
  obtain ⟨k, hk⟩ | ⟨q, hh, hl, hq⟩ := s.setRegX_cases x r v
  · rw [hk]
    refine ⟨?_, ?_, ?_, fun y h => s.getIdx_setHalf_ne h k v⟩ <;> rw [State.setHalf_frame]
  · rw [hq]
    have keeps (p : Reg8) (hp : q ≠ p) : (s.regs.set q v).get p = s.regs.get p := by rw [RegFile.get_set, if_neg hp.symm]
    exact ⟨keeps .h hh, keeps .l hl, s.regs.set_f q v, fun y _ => by cases y <;> rfl⟩

/-- Writing an operand of R418 changes main registers, IX or IY alone. -/
theorem State.setRegX_frame (s : State) (x : Idx) (r : RegX) (v : Byte) :
    s.setRegX x r v = { s with
      regs := (s.setRegX x r v).regs, ix := (s.setRegX x r v).ix, iy := (s.setRegX x r v).iy } := by
  obtain ⟨k, hk⟩ | ⟨q, -, -, hq⟩ := s.setRegX_cases x r v
  · rw [hk, State.setHalf_frame]
  · rw [hq]
    rfl

/-! ## One main register written, or one store -/

/-- A register written, F with the others kept (30_encoding R302). -/
theorem onlyReg_of_set (g : RegFile) (r : Reg8) (v : Byte) : OnlyReg g (g.set r v) r v := ⟨fun q => g.get_set r q v, g.set_f r v⟩

/-- New main registers, computed from registers alone. -/
theorem runsRegs_of_setRegs {g : RegFile} {P : RegFile → Prop} (h : exec i s = .next ((s.setRegs g).tick n)) (hg : P g) :
    RunsRegs i s n [] P :=
  ⟨_, h, by rw [List.append_nil]; rfl, hg⟩

/-- New main registers, after one byte of memory has been read. -/
theorem runsRegs_of_readDone {g : RegFile} {P : RegFile → Prop} (h : exec i s = .next (((s.readDone a).setRegs g).tick n)) (hg : P g) :
    RunsRegs i s n [.read a (s.memVal a)] P :=
  ⟨_, h, by rw [State.readDone_eq]; rfl, hg⟩

/-- One main register written, from registers or an immediate. -/
theorem runsRegs_of_setReg {r : Reg8} {v : Byte} (h : exec i s = .next ((s.setReg r v).tick n)) :
    RunsRegs i s n [] fun g => OnlyReg s.regs g r v :=
  runsRegs_of_setRegs h (onlyReg_of_set s.regs r v)

/-- One main register loaded from memory. -/
theorem runsRegs_of_load {r : Reg8} (h : exec i s = .next (((s.readDone a).setReg r (s.memVal a)).tick n)) :
    RunsRegs i s n [.read a (s.memVal a)] fun g => OnlyReg s.regs g r (s.memVal a) := by
  refine runsRegs_of_readDone h ?_
  rw [State.readDone_regs]
  exact onlyReg_of_set s.regs r _

/-- One byte stored. -/
theorem runsMem_of_store {v : Byte} (hm : Memory.wf s.mem) (h : exec i s = .next ((s.store a v).tick n)) :
    RunsMem i s n [.write a v] fun g m => g = s.regs ∧ StoredByte s m a v :=
  ⟨_, h, by rw [State.store_eq]; rfl, by rw [State.store_eq]; exact ⟨rfl, storedByte_ramWrite hm a v⟩⟩

/-- One word stored, low byte first. -/
theorem runsMem_of_store2 {v : Word} (hm : Memory.wf s.mem) (h : exec i s = .next ((s.store2 a v).tick n)) :
    RunsMem i s n [.write a (loByte v), .write (a + 1) (hiByte v)] fun g m => g = s.regs ∧ StoredWord s m a (loByte v) (hiByte v) :=
  ⟨_, h, by rw [State.store2_eq]; rfl, by rw [State.store2_eq]; exact ⟨rfl, storedWord_lowFirst hm a _ _⟩⟩

end Sys2Proof.Machine
end

section
/-! PROOFS, 40_load_exchange. Loads, stack and exchanges (R400-R444). -/

namespace Sys2Proof.Machine

open Sys2Proof.Claims

/-! ## 8-bit loads (R400-R419) -/

/-- Settles O1: a load is `setReg`, after `readDone` where its operand is in memory. -/
theorem byteLoadsWriteOneRegister : Obligations.ByteLoadsWriteOneRegister := by
  intro s r r' n x d nn
  rw [effective_eq]
  exact ⟨runsRegs_of_setReg rfl, runsRegs_of_setReg rfl, runsRegs_of_load rfl, runsRegs_of_load rfl, runsRegs_of_load rfl,
    runsRegs_of_load rfl, runsRegs_of_load rfl⟩

/-- Settles O2: a store is `State.store` at the operand's address. -/
theorem byteStoresWriteOneByte : Obligations.ByteStoresWriteOneByte := by
  intro s r n x d nn hm
  rw [effective_eq]
  exact ⟨runsMem_of_store hm rfl, runsMem_of_store hm rfl, runsMem_of_store hm rfl, runsMem_of_store hm rfl, runsMem_of_store hm rfl,
    runsMem_of_store hm rfl, runsMem_of_store hm rfl⟩

/-- The quirk of R1328, as the statements say it. -/
theorem State.irQuirk_iff (s : State) : s.irQuirk = true ↔ s.params.ldAIrQuirk = .any ∧ s.intLine = true ∧ s.iff1 = true := by
  simp [State.irQuirk, and_assoc]

/-- PV after LD A,I and LD A,R: IFF2, or a free value under the quirk (R414, R1328). -/
def State.irPv (s : State) : Bool := if s.irQuirk then s.drawnBit 0 else s.iff2

/-- `LD A,I` and `LD A,R` write A and F, and use one free value under the quirk (R414, R415). -/
theorem State.ldAFromIr_eq (s : State) (v : Byte) :
    s.ldAFromIr v = { s with
      regs := { s.regs with a := v, f := ldAIrFlags v s.regs.f s.irPv }, draws := s.draws + if s.irQuirk then 1 else 0 } := by
  unfold State.ldAFromIr State.irPv
  cases s.irQuirk <;> rfl

/-- The flags of `LD A,I` and `LD A,R` (R414). -/
theorem flagsAre_ldAIrFlags (v f : Byte) (pv : Bool) :
    FlagsAre (ldAIrFlags v f pv) (v.getLsbD 7) (decide (v = 0)) (v.getLsbD 5) false (v.getLsbD 3) pv false (f.getLsbD 0) := by
  simp [FlagsAre, ldAIrFlags, szFlags, cFlag]

/-- Settles O3: `State.ldAFromIr` is one record, and PV in it is IFF2 but under the quirk. -/
theorem transfersWithIAndR : Obligations.TransfersWithIAndR := by
  intro s load
  have loads {i : Instr} {v : Byte} (h : exec i s = .next ((s.ldAFromIr v).tick 9)) : load i v := by
    rw [State.ldAFromIr_eq] at h
    refine ⟨_, h, by rw [List.append_nil]; rfl, rfl, s.irPv, flagsAre_ldAIrFlags v s.regs.f s.irPv, fun hq => ?_⟩
    rw [State.irPv, if_neg (mt s.irQuirk_iff.mp hq)]
  exact ⟨loads rfl, loads rfl, rfl, rfl⟩

/-- A half written is what the statements say (R419). -/
theorem halfWritten_setHalf (s : State) (x : Idx) (k : Half) (v : Byte) : HalfWritten s (s.setHalf x k v) x k v :=
  ⟨s.getHalf_setHalf x k .high v, s.getHalf_setHalf x k .low v, fun _ h => s.getIdx_setHalf_ne h k v⟩

/-- Settles O4: R418 is `setRegX` and R419 `setHalf`. -/
theorem indexHalfLoads : Obligations.IndexHalfLoads := by
  intro s x dst src k n
  have load : exec (.ldXh x dst src) s = .next ((s.setRegX x dst (s.getRegX x src)).tick 8) := rfl
  have imm : exec (.ldXhN x k n) s = .next ((s.setHalf x k n).tick 11) := rfl
  rw [State.setRegX_frame] at load
  rw [State.setHalf_frame] at imm
  exact ⟨⟨_, load, by rw [List.append_nil]; rfl, fun q => s.getRegX_setRegX x dst q _, s.setRegX_keeps x dst _⟩,
    ⟨_, imm, by rw [List.append_nil]; rfl, rfl, halfWritten_setHalf s x k n⟩⟩

/-! ## 16-bit loads and stores (R420-R429) -/

/-- Settles O5: a load of a pair is `setPair`, after `readDone2` where its operand is in memory. -/
theorem pairLoads : Obligations.PairLoads := by
  intro s p nn load lo hi
  have fromReg {i : Instr} {q : Pair} {v : Word} {n : Nat} (h : exec i s = .next ((s.setPair q v).tick n)) : load i q v n [] := by
    rw [State.setPair_frame] at h
    exact ⟨_, h, by rw [List.append_nil]; rfl, fun k => s.getPair_setPair q k v, s.setPair_keeps_af q v⟩
  have fromMem {i : Instr} {q : Pair} {n : Nat} (h : exec i s = .next (((s.readDone2 nn).setPair q (word hi lo)).tick n)) :
      load i q (word hi lo) n (reads2 nn lo hi) := by
    rw [State.setPair_frame, State.readDone2_eq] at h
    exact ⟨_, h, rfl, fun k => State.getPair_setPair _ q k _, State.setPair_keeps_af _ q _⟩
  exact ⟨fromReg rfl, fromMem rfl, fromMem (q := .hl) rfl, fromReg (q := .sp) rfl⟩

/-- Settles O6: a load of an index register is `setIdx`, after `readDone2` where its operand is in memory. -/
theorem indexLoads : Obligations.IndexLoads := by
  intro s x nn lo hi
  have fromWord : exec (.ldIxyNn x nn) s = .next ((s.setIdx x nn).tick 14) := rfl
  have fromMem : exec (.ldIxyInd x nn) s = .next (((s.readDone2 nn).setIdx x (word hi lo)).tick 20) := rfl
  rw [State.setIdx_frame] at fromWord
  rw [State.setIdx_frame, State.readDone2_eq] at fromMem
  exact ⟨⟨_, fromWord, by rw [List.append_nil]; rfl, rfl, fun y => s.getIdx_setIdx x y nn⟩,
    ⟨_, fromMem, rfl, rfl, fun y => State.getIdx_setIdx _ x y _⟩, rfl⟩

/-- Settles O7: a 16-bit store is `State.store2`. -/
theorem wordStoresAreLittleEndian : Obligations.WordStoresAreLittleEndian := by
  intro s x p nn hm
  exact ⟨runsMem_of_store2 hm rfl, runsMem_of_store2 hm rfl, runsMem_of_store2 hm rfl⟩

/-! ## Stack (R430-R433) -/

/-- Settles O8: a push is `State.push`. -/
theorem pushStoresBelowSp : Obligations.PushStoresBelowSp := by
  intro s q x hm push
  have pushed {i : Instr} {v : Word} {n : Nat} (h : exec i s = .next ((s.push v).tick n)) : push i v n := by
    rw [State.push_eq] at h
    exact ⟨_, h, rfl, storedWord_push hm _ _⟩
  exact ⟨pushed rfl, pushed rfl⟩

/-- Settles O9: a pop is `State.popDone`, then the register written. -/
theorem popLoadsFromSp : Obligations.PopLoadsFromSp := by
  intro s q x lo hi pop
  have pair : exec (.popQq q) s = .next ((s.popDone.setPairQ q (word hi lo)).tick 10) := rfl
  have idx : exec (.popIxy x) s = .next ((s.popDone.setIdx x (word hi lo)).tick 14) := rfl
  rw [State.setPairQ_frame, State.popDone_eq] at pair
  rw [State.setIdx_frame, State.popDone_eq] at idx
  exact ⟨⟨_, pair, rfl, rfl, rfl, fun k => State.getPairQ_setPairQ _ q k _⟩,
    ⟨_, idx, rfl, rfl, fun y => State.getIdx_setIdx _ x y _⟩⟩

/-- A read changes no memory: the next read of plain RAM is still the byte written last (20_memory R213). -/
theorem State.memVal_readDone_of_ram {s : State} {b : Word} (h : s.isRam b = true) (a : Word) :
    (s.readDone a).memVal b = memRead s.mem b.toNat := by
  rw [State.readDone_eq]
  exact State.memVal_of_ram (s := { s with draws := _, events := _ }) h

/-- Settles O10, from O8 and O9: the bytes that the push stored are those that the pop reads. -/
theorem popAfterPushRestores : Obligations.PopAfterPushRestores := by
  intro s t q hm hram1 hram2 ht q'
  obtain ⟨⟨t', ht', heq, hlo, hhi, hrest⟩, -⟩ := pushStoresBelowSp s q .ix hm
  obtain rfl : t' = t := by rw [ht] at ht'; cases ht'; rfl
  obtain ⟨⟨u, hu, hueq, -, -, hpairs⟩, -⟩ := popLoadsFromSp t' q' .ix
  have hsp : t'.sp = s.sp - 2 := by rw [heq]
  have hnext : s.sp - 2 + 1 = s.sp - 1 := by bv_omega
  have hram : ∀ a, t'.isRam a = s.isRam a := State.isRam_congr (by rw [heq])
  rw [hram2, if_pos rfl] at hlo
  rw [hnext, hram1, if_pos rfl] at hhi
  rw [hnext] at hrest
  refine ⟨u, hu, ?_, ?_, fun k hk => ?_, fun a h1 h2 => ?_⟩
  · rw [hpairs q', if_pos rfl, hsp, hnext, State.memVal_readDone_of_ram ((hram _).trans hram1),
      State.memVal_of_ram ((hram _).trans hram2), hlo, hhi, word_hiByte_loByte]
  · have : u.sp = t'.sp + 2 := by rw [hueq]
    rw [this, hsp]
    bv_omega
  · rw [hpairs k, if_neg hk, heq]
    rfl
  · have : u.mem = t'.mem := by rw [hueq]
    rw [this, hrest a h2 h1]

/-! ## Exchanges (R440-R444) -/

/-- Settles O12: both forms are `State.exSp`, then the register written. -/
theorem exchangeWithStackTop : Obligations.ExchangeWithStackTop := by
  intro s x hm lo hi swap
  have hl : exec .exSpHl s = .next (((s.exSp s.regs.hl).setHl (word hi lo)).tick 19) := rfl
  have idx : exec (.exSpIxy x) s = .next (((s.exSp (s.getIdx x)).setIdx x (word hi lo)).tick 23) := rfl
  rw [State.exSp, State.exSp_eq] at hl
  rw [State.setIdx_frame, State.exSp, State.exSp_eq] at idx
  have stored (v : Word) := storedWord_highFirst hm s.sp (loByte v) (hiByte v)
  exact ⟨⟨_, hl, by rw [List.append_assoc]; rfl, stored _, by simp [State.setHl, RegFile.setHl], rfl, rfl⟩,
    ⟨_, idx, by rw [List.append_assoc]; rfl, stored _, rfl, fun y => State.getIdx_setIdx _ x y _⟩⟩

/-- Settles O11: each exchange is one record, and the second undoes it. -/
theorem exchangesSwapAndUndo : Obligations.ExchangesSwapAndUndo := by
  have deHl (s : State) : exec .exDeHl s = .next { s with
      regs := { s.regs with d := s.regs.h, e := s.regs.l, h := s.regs.d, l := s.regs.e }, cycles := s.cycles + 4 } := by
    simp [exec, execExDeHl, State.setDe, State.setHl, State.setRegs, State.tick, RegFile.setDe, RegFile.setHl, RegFile.de, RegFile.hl]
  refine ⟨deHl, fun _ => rfl, fun _ => rfl, fun i hi s t h => ?_⟩
  simp only [List.mem_cons, List.not_mem_nil, or_false] at hi
  obtain rfl | rfl | rfl := hi
  · rw [deHl s] at h
    cases h
    exact deHl _
  · cases h
    rfl
  · cases h
    rfl

end Sys2Proof.Machine
end

section
/-! PROOFS, 41_alu8 R500-R506. The flag routines of the model against the exact integers of the statements. -/

namespace Sys2Proof.Machine

open Sys2Proof.Claims

/-! ## The flag byte -/

/-- A flag byte has the flags it is made of (10_state R110). -/
theorem flagsAre_mkFlags (s z y h x pv n c : Bool) : FlagsAre (mkFlags s z y h x pv n c) s z y h x pv n c := by
  simp [FlagsAre]

/-- S, Z, Y and X of `sz(r)`, the other flags as given (R500). -/
theorem flagsAre_szFlags (r : Byte) (h pv n c : Bool) :
    FlagsAre (szFlags r h pv n c) (r.getLsbD 7) (decide (r = 0)) (r.getLsbD 5) h (r.getLsbD 3) pv n c :=
  flagsAre_mkFlags ..

section
variable {f : Byte} {s z y h x pv n c : Bool}

/-- Y and X replaced, the other flags kept. -/
theorem flagsAre_withYX (hf : FlagsAre f s z y h x pv n c) (y' x' : Bool) : FlagsAre (withYX f y' x') s z y' h x' pv n c := by
  obtain ⟨rfl, rfl, -, rfl, -, rfl, rfl, rfl⟩ := hf
  exact flagsAre_mkFlags ..

/-- C replaced, the other flags kept (R505). -/
theorem flagsAre_withC (hf : FlagsAre f s z y h x pv n c) (c' : Bool) : FlagsAre (withC f c') s z y h x pv n c' := by
  obtain ⟨rfl, rfl, rfl, rfl, rfl, rfl, rfl, -⟩ := hf
  exact flagsAre_mkFlags ..

end

/-! ## Sums and differences (R501, R502) -/

/-- The sign bit of a byte, on its unsigned value. -/
theorem getLsbD_seven (v : Byte) : v.getLsbD 7 = decide (128 ≤ v.toNat) := BitVec.msb_eq_decide v

/-- The signed value of a byte, from its unsigned one. -/
theorem toInt_byte (v : Byte) : v.toInt = if 128 ≤ v.toNat then (v.toNat : Int) - 256 else v.toNat := by
  rw [BitVec.toInt_eq_toNat_cond]
  split <;> split <;> omega

/-- Z of a byte, on its unsigned value. -/
theorem eq_zero_iff_toNat (v : Byte) : v = 0 ↔ v.toNat = 0 := BitVec.toNat_inj.symm

theorem addFlags8_val_toNat (a b : Byte) (cin : Bool) : (addFlags8 a b cin).val.toNat = (a.toNat + b.toNat + cin.toNat) % 256 :=
  BitVec.toNat_ofNat ..

theorem subFlags8_val_toNat (a b : Byte) (cin : Bool) :
    (subFlags8 a b cin).val.toNat = (256 + 256 + a.toNat - b.toNat - cin.toNat) % 256 := by
  have := b.isLt
  have := cin.toNat_le
  simp only [subFlags8, BitVec.toNat_ofInt]
  omega

/-- A sum overflows when its signs agree and the result's differs: that is when the exact signed sum fits no byte (R501). -/
theorem overflow_add (a b : Byte) (cin : Bool) :
    (a.getLsbD 7 == b.getLsbD 7 && (addFlags8 a b cin).val.getLsbD 7 != a.getLsbD 7) = overflows8 (a.toInt + b.toInt + cin.toNat) := by
  have := a.isLt
  have := b.isLt
  have := cin.toNat_le
  rw [Bool.eq_iff_iff]
  simp only [getLsbD_seven, addFlags8_val_toNat, overflows8, toInt_byte, Bool.and_eq_true, beq_iff_eq, bne_iff_ne, ne_eq,
    decide_eq_decide, decide_eq_true_eq]
  omega

/-- A difference overflows when its signs differ and the result's is not A's: that is when the exact signed difference fits no byte
(R502). -/
theorem overflow_sub (a b : Byte) (cin : Bool) :
    (a.getLsbD 7 != b.getLsbD 7 && (subFlags8 a b cin).val.getLsbD 7 != a.getLsbD 7) = overflows8 (a.toInt - b.toInt - cin.toNat) := by
  have := a.isLt
  have := b.isLt
  have := cin.toNat_le
  rw [Bool.eq_iff_iff]
  simp only [getLsbD_seven, subFlags8_val_toNat, overflows8, toInt_byte, Bool.and_eq_true, bne_iff_ne, ne_eq,
    decide_eq_decide, decide_eq_true_eq]
  omega

/-- The flags of a sum, V as the exact signed sum leaving a byte (R501). -/
theorem flagsAre_addFlags8 (a b : Byte) (cin : Bool) :
    let r := (addFlags8 a b cin).val
    FlagsAre (addFlags8 a b cin).flags (r.getLsbD 7) (decide (r = 0)) (r.getLsbD 5)
      (decide (15 < a.toNat % 16 + b.toNat % 16 + cin.toNat)) (r.getLsbD 3) (overflows8 (a.toInt + b.toInt + cin.toNat)) false
      (decide (255 < a.toNat + b.toNat + cin.toNat)) := by
  rw [← overflow_add]
  exact flagsAre_szFlags ..

/-- The flags of a difference, V as the exact signed difference leaving a byte (R502). -/
theorem flagsAre_subFlags8 (a b : Byte) (cin : Bool) :
    let r := (subFlags8 a b cin).val
    FlagsAre (subFlags8 a b cin).flags (r.getLsbD 7) (decide (r = 0)) (r.getLsbD 5)
      (decide (a.toNat % 16 < b.toNat % 16 + cin.toNat)) (r.getLsbD 3) (overflows8 (a.toInt - b.toInt - cin.toNat)) true
      (decide (a.toNat < b.toNat + cin.toNat)) := by
  have borrow : decide (a.toNat < b.toNat + cin.toNat) = decide ((a.toNat : Int) - b.toNat - cin.toNat < 0) := by
    rw [decide_eq_decide]
    omega
  rw [← overflow_sub, borrow]
  exact flagsAre_szFlags ..

theorem sumFlags_addFlags8 (a b : Byte) (cin : Bool) : SumFlags a b cin (addFlags8 a b cin).val (addFlags8 a b cin).flags := by
  refine ⟨addFlags8_val_toNat a b cin, ?_⟩
  simpa only [getLsbD_seven, eq_zero_iff_toNat] using flagsAre_addFlags8 a b cin

theorem differenceFlags_subFlags8 (a b : Byte) (cin : Bool) :
    DifferenceFlags a b cin (subFlags8 a b cin).val (subFlags8 a b cin).flags := by
  refine ⟨subFlags8_val_toNat a b cin, ?_⟩
  simpa only [getLsbD_seven, eq_zero_iff_toNat] using flagsAre_subFlags8 a b cin

/-- The flags of a logic result (R503). -/
theorem logicFlags_logicFlags8 (r : Byte) (h : Bool) : LogicFlags r (logicFlags8 r h) h := by
  rw [LogicFlags, evenOnes_eq_parity]
  exact flagsAre_szFlags ..

/-- A difference without a borrow is that of bytes. -/
theorem subFlags8_val_false (a b : Byte) : (subFlags8 a b false).val = a - b := by
  apply BitVec.eq_of_toNat_eq
  have := b.isLt
  rw [subFlags8_val_toNat, BitVec.toNat_sub, Bool.toNat_false]
  omega

/-- The flags of CP: those of the difference, Y and X from the operand (R517). -/
theorem flagsAre_cpFlags (a v : Byte) :
    FlagsAre (cpFlags a v) ((a - v).getLsbD 7) (decide (a = v)) (v.getLsbD 5) (decide (a.toNat % 16 < v.toNat % 16)) (v.getLsbD 3)
      (overflows8 (a.toInt - v.toInt)) true (decide (a.toNat < v.toNat)) := by
  have hz : a - v = 0 ↔ a = v := sub_eq_zero
  have hf : FlagsAre (cpFlags a v) _ _ _ _ _ _ _ _ :=
    flagsAre_withYX (flagsAre_subFlags8 a v false) (v.getLsbD 5) (v.getLsbD 3)
  simpa only [subFlags8_val_false, hz, Bool.toNat_false, Nat.add_zero, Nat.cast_zero, Int.sub_zero] using hf

end Sys2Proof.Machine
end

section
/-! PROOFS, 41_alu8 R507, R510-R517. The eight ALU operations in their five operand forms. -/

namespace Sys2Proof.Machine

open Sys2Proof.Claims

/-- The instruction of an ALU operation on an operand form (R306, R507). -/
def aluInstr : AluOp → Src → Instr
  | .add => addOf
  | .adc => adcOf
  | .sub => subOf
  | .sbc => sbcOf
  | .and => andOf
  | .xor => xorOf
  | .or => orOf
  | .cp => cpOf

/-- The shared meaning of an operand form. -/
def State.aluSrc (s : State) (op : AluOp) : Src → State
  | .reg r => s.aluM op (.reg r)
  | .hl => s.aluM op .hl
  | .imm n => s.aluN op n
  | .half x k => s.aluXh op x k
  | .idx x d => s.aluXd op x d

theorem exec_aluInstr (op : AluOp) (o : Src) (s : State) : exec (aluInstr op o) s = .next (s.aluSrc op o) := by
  cases op <;> cases o <;> rfl

/-- A and F after an ALU operation on the source v; the others kept. -/
def RegFile.alu (g : RegFile) (op : AluOp) (v : Byte) : RegFile :=
  { g with a := (aluOp op g.a v g.f).val, f := (aluOp op g.a v g.f).flags }

/-- An operation on a byte just read works on A and F as they were. -/
theorem State.readDone_alu (s : State) (a : Word) (op : AluOp) (v : Byte) :
    (s.readDone a).alu op v = (s.readDone a).setRegs (s.regs.alu op v) := by
  simp only [State.alu, State.readDone_regs, RegFile.alu]

/-- Every operand form reads its operand, and writes A and F as `aluOp` says. -/
theorem runsRegs_aluInstr {s : State} {o : Src} {P : RegFile → Prop} (op : AluOp) (hP : P (s.regs.alu op (o.val s))) :
    RunsRegs (aluInstr op o) s o.cost (o.accesses s) P := by
  have h := exec_aluInstr op o s
  cases o with
  | reg | imm => exact runsRegs_of_setRegs h hP
  | half x k =>
    rw [Src.val, halfOf_getIdx] at hP
    exact runsRegs_of_setRegs h hP
  | hl =>
    rw [State.aluSrc, State.aluM, State.mReadDone, State.readDone_alu] at h
    exact runsRegs_of_readDone h hP
  | idx x d =>
    rw [State.aluSrc, State.aluXd, State.readDone_alu] at h
    rw [Src.val, effective_eq] at hP
    rw [Src.accesses, effective_eq]
    exact runsRegs_of_readDone h hP

/-- Settles O13: A and F are those of `addFlags8`. -/
theorem addAndAdcSumIntoA : Obligations.AddAndAdcSumIntoA := by
  intro s o
  exact ⟨runsRegs_aluInstr .add ⟨rfl, sumFlags_addFlags8 ..⟩, runsRegs_aluInstr .adc ⟨rfl, sumFlags_addFlags8 ..⟩⟩

/-- Settles O14: A and F are those of `subFlags8`. -/
theorem subAndSbcSubtractFromA : Obligations.SubAndSbcSubtractFromA := by
  intro s o
  exact ⟨runsRegs_aluInstr .sub ⟨rfl, differenceFlags_subFlags8 ..⟩, runsRegs_aluInstr .sbc ⟨rfl, differenceFlags_subFlags8 ..⟩⟩

/-- Settles O15: F is `logicFlags8` of the result. -/
theorem logicOperationsSetParity : Obligations.LogicOperationsSetParity := by
  intro s o logic
  exact ⟨runsRegs_aluInstr .and ⟨rfl, logicFlags_logicFlags8 ..⟩, runsRegs_aluInstr .xor ⟨rfl, logicFlags_logicFlags8 ..⟩,
    runsRegs_aluInstr .or ⟨rfl, logicFlags_logicFlags8 ..⟩⟩

/-- Settles O16: F is `cpFlags`. -/
theorem compareTakesYXFromOperand : Obligations.CompareTakesYXFromOperand := by
  intro s o
  exact runsRegs_aluInstr .cp ⟨rfl, flagsAre_cpFlags ..⟩

end Sys2Proof.Machine
end

section
/-! PROOFS, 41_alu8 R505, R520-R527. 8-bit increment and decrement. -/

namespace Sys2Proof.Machine

open Sys2Proof.Claims

/-! ## The flags -/

/-- The sum with 1, C kept (R505): a carry into bit 4 from 0xF, an overflow from 0x7F. -/
theorem incFlags_inc8 (v f : Byte) : IncFlags v (inc8 v f).val f (inc8 v f).flags := by
  have half : 15 < v.toNat % 16 + (1 : Byte).toNat % 16 + false.toNat ↔ v.toNat % 16 = 15 := by
    change 15 < v.toNat % 16 + 1 % 16 + 0 ↔ _
    omega
  have overflow : overflows8 (v.toInt + (1 : Byte).toInt + false.toNat) = decide (v = 0x7F) := by
    revert v
    decide
  refine ⟨addFlags8_val_toNat v 1 false, ?_⟩
  have hf := flagsAre_withC (flagsAre_addFlags8 v 1 false) (cFlag f)
  simp only [half, overflow] at hf
  exact hf

/-- The difference with 1, C kept (R505): a borrow into bit 4 from 0x0, an overflow from 0x80. -/
theorem decFlags_dec8 (v f : Byte) : DecFlags v (dec8 v f).val f (dec8 v f).flags := by
  have half : v.toNat % 16 < (1 : Byte).toNat % 16 + false.toNat ↔ v.toNat % 16 = 0 := Nat.lt_one_iff
  have overflow : overflows8 (v.toInt - (1 : Byte).toInt - false.toNat) = decide (v = 0x80) := by
    revert v
    decide
  refine ⟨?_, ?_⟩
  · rw [dec8, subFlags8_val_toNat]
    change (256 + 256 + v.toNat - 1 - 0) % 256 = _
    omega
  · have hf := flagsAre_withC (flagsAre_subFlags8 v 1 false) (cFlag f)
    simp only [half, overflow] at hf
    exact hf

/-! ## The shapes of the meanings: a byte of memory or an index half read and written back -/

@[simp] theorem State.rmw_regs (s : State) (a : Word) (w : Byte) : (s.rmw a w).regs = s.regs := by rw [rmw_eq]

/-- A byte of memory read and one written back, and new main registers (20_memory R210). -/
theorem runsMem_of_rmw {i : Instr} {s : State} {n : Nat} {a : Word} {w : Byte} {g : RegFile} {P : RegFile → List Host.Cell → Prop}
    (hm : Memory.wf s.mem) (h : exec i s = .next (((s.rmw a w).setRegs g).tick n)) (hP : ∀ m, StoredByte s m a w → P g m) :
    RunsMem i s n [.read a (s.memVal a), .write a w] P :=
  ⟨_, h, by rw [State.rmw_eq]; rfl, by rw [State.rmw_eq]; exact hP _ (storedByte_ramWrite hm a w)⟩

/-- The same where F alone is written. -/
theorem runsMem_of_rmw_setF {i : Instr} {s : State} {n : Nat} {a : Word} {w f : Byte} {P : RegFile → List Host.Cell → Prop}
    (hm : Memory.wf s.mem) (h : exec i s = .next (((s.rmw a w).setF f).tick n))
    (hP : ∀ m, StoredByte s m a w → P { s.regs with f := f } m) : RunsMem i s n [.read a (s.memVal a), .write a w] P := by
  rw [State.setF, State.rmw_regs] at h
  exact runsMem_of_rmw hm h hP

/-- An index half and F written (10_state R104). -/
theorem runsIdx_of_setHalf_setF {i : Instr} {s : State} {n : Nat} {x : Idx} {k : Half} {w f : Byte} {P : State → Prop}
    (h : exec i s = .next (((s.setHalf x k w).setF f).tick n))
    (hP : ∀ t : State, t.regs = { s.regs with f := f } → HalfWritten s t x k w → P t) : RunsIdx i s n [] P := by
  rw [State.setHalf_frame] at h
  exact ⟨_, h, by rw [List.append_nil]; rfl, hP _ rfl (halfWritten_setHalf s x k w)⟩

/-- Settles O17: the four forms share one routine for result and flags, `inc8` or `dec8`. -/
theorem byteIncrementAndDecrement : Obligations.ByteIncrementAndDecrement := by
  intro s r x k d hm unit
  have of_routine {F : Byte → Byte → Byte → Byte → Prop} {p : Byte → Byte → Alu8} {iR iHl iXd iXh : Instr}
      (hF : ∀ v f, F v (p v f).val f (p v f).flags)
      (hR : exec iR s = .next (((s.setReg r (p (s.getReg r) s.regs.f).val).setF (p (s.getReg r) s.regs.f).flags).tick 4))
      (hHl : exec iHl s = .next (((s.rmw s.regs.hl (p (s.memVal s.regs.hl) s.regs.f).val).setF
        (p (s.memVal s.regs.hl) s.regs.f).flags).tick 11))
      (hXd : exec iXd s = .next (((s.rmw (s.ea x d) (p (s.memVal (s.ea x d)) s.regs.f).val).setF
        (p (s.memVal (s.ea x d)) s.regs.f).flags).tick 23))
      (hXh : exec iXh s = .next (((s.setHalf x k (p (s.getHalf x k) s.regs.f).val).setF
        (p (s.getHalf x k) s.regs.f).flags).tick 8)) :
      unit F iR iHl iXd iXh := by
    dsimp only [unit]
    rw [effective_eq, halfOf_getIdx]
    exact ⟨runsRegs_of_setRegs hR ⟨_, hF _ _, onlyReg_set s.regs r _⟩,
      ⟨_, runsMem_of_rmw_setF hm hHl fun _ stored => ⟨hF _ _, rfl, stored⟩⟩,
      ⟨_, runsMem_of_rmw_setF hm hXd fun _ stored => ⟨hF _ _, rfl, stored⟩⟩,
      runsIdx_of_setHalf_setF hXh fun _ hregs written => ⟨_, hregs ▸ hF _ _, by rw [hregs]; rfl, written⟩⟩
  exact ⟨of_routine incFlags_inc8 rfl rfl rfl rfl, of_routine decFlags_dec8 rfl rfl rfl rfl⟩

end Sys2Proof.Machine
end

section
/-! PROOFS, 41_alu8 R530-R534. The accumulator adjust and flag instructions. -/

namespace Sys2Proof.Machine

open Sys2Proof.Claims

/-! ## DAA (R530) -/

/-- C after DAA: once set it stays. -/
def daaCarry (a f : Byte) : Bool := cFlag f || decide (a.toNat > 0x99)

/-- What DAA adds or subtracts. -/
def daaDiff (a f : Byte) : Nat := (if daaCarry a f then 0x60 else 0) + (if hFlag f || decide (a.toNat % 16 > 9) then 6 else 0)

theorem daa_val_toNat (a f : Byte) :
    (daa a f).val.toNat = (if nFlag f then 256 + a.toNat - daaDiff a f else a.toNat + daaDiff a f) % 256 := by
  have diff : (((if daaCarry a f then 0x60 else 0) + (if hFlag f || decide (a.toNat % 16 > 9) then 0x06 else 0) : Byte)).toNat =
      daaDiff a f := by
    unfold daaDiff
    cases daaCarry a f <;> cases hFlag f || decide (a.toNat % 16 > 9) <;> rfl
  have : daaDiff a f ≤ 0x66 := by
    unfold daaDiff
    split <;> split <;> omega
  unfold daa
  dsimp only
  rw [← daaCarry]
  split
  · rw [BitVec.toNat_sub, diff]
    omega
  · rw [BitVec.toNat_add, diff]

theorem flagsAre_daa (a f : Byte) :
    let r := (daa a f).val
    FlagsAre (daa a f).flags (r.getLsbD 7) (decide (r = 0)) (r.getLsbD 5)
      (if nFlag f then hFlag f && decide (a.toNat % 16 < 6) else decide (a.toNat % 16 > 9)) (r.getLsbD 3) (evenOnes r) (nFlag f)
      (daaCarry a f) := by
  intro r
  rw [evenOnes_eq_parity]
  exact flagsAre_szFlags ..

/-- Settles O18: A and F are those of `daa`. -/
theorem daaAdjustsEveryInput : Obligations.DaaAdjustsEveryInput := by
  intro s
  exact runsRegs_of_setRegs rfl ⟨daa_val_toNat .., rfl, flagsAre_daa ..⟩

/-! ## DAA after ADD and SUB of decimal numbers -/

/-- The byte of a two-digit decimal number: one digit in each nibble. -/
def bcdByte (k : Nat) : Byte := BitVec.ofNat 8 (k / 10 * 16 + k % 10)

theorem bcdByte_toNat {k : Nat} (h : k < 100) : (bcdByte k).toNat = k / 10 * 16 + k % 10 := by
  rw [bcdByte, BitVec.toNat_ofNat]
  omega

/-- The byte that DAA makes of the sum of two decimal numbers, and its carry (R501, R530). -/
theorem daa_addFlags8_bcdByte {x y : Nat} (hx : x < 100) (hy : y < 100) :
    let p := addFlags8 (bcdByte x) (bcdByte y) false
    (daa p.val p.flags).val = bcdByte ((x + y) % 100) ∧ daaCarry p.val p.flags = decide (100 ≤ x + y) := by
  intro p
  have hval : p.val.toNat = _ := addFlags8_val_toNat (bcdByte x) (bcdByte y) false
  obtain ⟨-, -, -, hh, -, -, hn, hc⟩ := flagsAre_addFlags8 (bcdByte x) (bcdByte y) false
  rw [bcdByte_toNat hx, bcdByte_toNat hy, Bool.toNat_false] at hval hh hc
  have carry : daaCarry p.val p.flags = decide (100 ≤ x + y) := by
    rw [daaCarry, cFlag, hc, hval, ← Bool.decide_or, decide_eq_decide]
    have above (n : Nat) : 255 < n ∨ n % 256 > 0x99 ↔ 0x99 < n := by omega
    rw [above]
    omega
  have half : (hFlag p.flags || decide (p.val.toNat % 16 > 9)) = decide (10 ≤ x % 10 + y % 10) := by
    rw [hFlag, hh, hval, ← Bool.decide_or, decide_eq_decide]
    omega
  refine ⟨BitVec.eq_of_toNat_eq ?_, carry⟩
  rw [daa_val_toNat, daaDiff, carry, half, nFlag, hn, hval, bcdByte_toNat (Nat.mod_lt _ (by decide))]
  simp only [decide_eq_true_eq, Bool.false_eq_true, if_false]
  split <;> split <;> omega

/-- The byte that DAA makes of the difference of two decimal numbers, and its borrow (R502, R530). -/
theorem daa_subFlags8_bcdByte {x y : Nat} (hx : x < 100) (hy : y < 100) :
    let p := subFlags8 (bcdByte x) (bcdByte y) false
    (daa p.val p.flags).val = bcdByte ((100 + x - y) % 100) ∧ daaCarry p.val p.flags = decide (x < y) := by
  intro p
  have hval : p.val.toNat = _ := subFlags8_val_toNat (bcdByte x) (bcdByte y) false
  obtain ⟨-, -, -, hh, -, -, hn, hc⟩ := flagsAre_subFlags8 (bcdByte x) (bcdByte y) false
  rw [bcdByte_toNat hx, bcdByte_toNat hy, Bool.toNat_false] at hval hh hc
  have carry : daaCarry p.val p.flags = decide (x < y) := by
    rw [daaCarry, cFlag, hc, hval, ← Bool.decide_or, decide_eq_decide]
    have order : x / 10 * 16 + x % 10 < y / 10 * 16 + y % 10 ↔ x < y := by omega
    rw [← order]
    omega
  have half : (hFlag p.flags || decide (p.val.toNat % 16 > 9)) = decide (x % 10 < y % 10) := by
    rw [hFlag, hh, hval, ← Bool.decide_or, decide_eq_decide]
    omega
  refine ⟨BitVec.eq_of_toNat_eq ?_, carry⟩
  rw [daa_val_toNat, daaDiff, carry, half, nFlag, hn, hval, bcdByte_toNat (Nat.mod_lt _ (by decide))]
  simp only [decide_eq_true_eq, if_true]
  split <;> split <;> omega

/-- DAA right after an ALU operation with an immediate. -/
theorem exec_daa_of_aluN {s : State} {op : AluOp} {n r : Byte} {c : Bool} (h : let p := aluOp op s.regs.a n s.regs.f
    (daa p.val p.flags).val = r ∧ daaCarry p.val p.flags = c) :
    ∃ u, exec .daa (s.aluN op n) = .next u ∧ u.regs.a = r ∧ u.regs.f.getLsbD 0 = c := by
  obtain ⟨hr, hc⟩ := h
  obtain ⟨-, -, -, -, -, -, -, hbit⟩ := flagsAre_daa (s.aluN op n).regs.a (s.aluN op n).regs.f
  exact ⟨_, rfl, hr, hbit.trans hc⟩

/-- Settles O19: DAA works on the sum or difference of the two bytes and on its flags. -/
theorem daaCorrectsDecimalAddAndSub : Obligations.DaaCorrectsDecimalAddAndSub := by
  intro s t x y hx hy bcd ha
  have add := daa_addFlags8_bcdByte hx hy
  have sub := daa_subFlags8_bcdByte hx hy
  rw [← show s.regs.a = bcdByte x from ha] at add sub
  refine ⟨fun ht => ?_, fun ht => ?_⟩ <;> cases ht
  · exact exec_daa_of_aluN (op := .add) add
  · exact exec_daa_of_aluN (op := .sub) sub

/-! ## CPL, NEG, CCF and SCF (R531-R534) -/

/-- SCF and CCF use two free values under ANY. -/
theorem State.scfDrawn_eq (s : State) : s.scfDrawn = { s with draws := s.draws + if s.params.scfCcfXy = .any then 2 else 0 } := by
  unfold State.scfDrawn
  cases s.params.scfCcfXy <;> rfl

theorem State.scfYX_of_fromA {s : State} (h : s.params.scfCcfXy = .fromA) :
    s.scfY = s.regs.a.getLsbD 5 ∧ s.scfX = s.regs.a.getLsbD 3 := by
  simp only [State.scfY, State.scfX, h, and_self]

/-- The flags of CPL: H and N set, Y and X from the new A (R531). -/
theorem flagsAre_cplFlags (a f : Byte) :
    FlagsAre (cplFlags (~~~a) f) (f.getLsbD 7) (f.getLsbD 6) (!a.getLsbD 5) true (!a.getLsbD 3) (f.getLsbD 2) true (f.getLsbD 0) := by
  have inv5 : (~~~a).getLsbD 5 = !a.getLsbD 5 := by simp
  have inv3 : (~~~a).getLsbD 3 = !a.getLsbD 3 := by simp
  rw [← inv5, ← inv3]
  exact flagsAre_mkFlags ..

/-- The flags of NEG: those of 0 - A (R532). -/
theorem flagsAre_neg (a : Byte) :
    FlagsAre (subFlags8 0 a false).flags ((0 - a).getLsbD 7) (decide (a = 0)) ((0 - a).getLsbD 5) (decide (a.toNat % 16 ≠ 0))
      ((0 - a).getLsbD 3) (decide (a = 0x80)) true (decide (a ≠ 0)) := by
  have zero : 0 - a = 0 ↔ a = 0 := by simp
  have half : (0 : Byte).toNat % 16 < a.toNat % 16 + false.toNat ↔ a.toNat % 16 ≠ 0 := Nat.pos_iff_ne_zero
  have overflow : overflows8 ((0 : Byte).toInt - a.toInt - false.toNat) = decide (a = 0x80) := by
    revert a
    decide
  have borrow : (0 : Byte).toNat < a.toNat + false.toNat ↔ a ≠ 0 := Nat.pos_iff_ne_zero.trans (eq_zero_iff_toNat a).not.symm
  have hf := flagsAre_subFlags8 0 a false
  simp only [subFlags8_val_false, zero, half, overflow, borrow] at hf
  exact hf

/-- Settles O20: each writes the flag byte of its rule; CCF and SCF keep A. -/
theorem accumulatorAndCarryInstructions : Obligations.AccumulatorAndCarryInstructions := by
  intro s f
  have neg : exec .neg s = .next ((s.setRegs { s.regs with a := 0 - s.regs.a, f := (subFlags8 0 s.regs.a false).flags }).tick 8) := by
    rw [← subFlags8_val_false]
    rfl
  refine ⟨runsRegs_of_setRegs rfl ⟨rfl, flagsAre_cplFlags ..⟩, runsRegs_of_setRegs neg ⟨rfl, flagsAre_neg _⟩, ?_⟩
  intro carry
  have of_scfDrawn {i : Instr} {h c : Bool}
      (hi : exec i s = .next ((s.scfDrawn.setF (mkFlags (sFlag f) (zFlag f) s.scfY h s.scfX (pvFlag f) false c)).tick 4)) :
      carry i h c := by
    rw [State.scfDrawn_eq] at hi
    exact ⟨_, hi, by rw [List.append_nil]; rfl, rfl, s.scfY, s.scfX, flagsAre_mkFlags .., State.scfYX_of_fromA⟩
  exact ⟨of_scfDrawn rfl, of_scfDrawn rfl⟩

end Sys2Proof.Machine
end

section
/-! PROOFS, 44_rotate_shift R504, R804, R810-R817. The eight rotates and shifts in their operand forms. -/

namespace Sys2Proof.Machine

open Sys2Proof.Claims

/-! ## The result and the bit that leaves -/

/-- A bit as the low bit of a byte. -/
def bitByte (b : Bool) : Byte := if b then 1 else 0

theorem shlIn_eq (v : Byte) (b : Bool) : shlIn v b = v <<< 1 ||| bitByte b := by
  revert v b
  decide

theorem shrIn_eq (v : Byte) (b : Bool) : shrIn v b = v >>> 1 ||| bitByte b <<< 7 := by
  revert v b
  decide

/-- A rotate to the left shifts in the bit that left (R810). -/
theorem rotateLeft_one_eq (v : Byte) : v.rotateLeft 1 = shlIn v (v.getLsbD 7) := by
  revert v
  decide

/-- A rotate to the right shifts in the bit that left (R811). -/
theorem rotateRight_one_eq (v : Byte) : v.rotateRight 1 = shrIn v (v.getLsbD 0) := by
  revert v
  decide

/-- An arithmetic shift to the right shifts in the sign (R815). -/
theorem sshiftRight_one_eq (v : Byte) : v.sshiftRight 1 = shrIn v (v.getLsbD 7) := by
  revert v
  decide

/-- The model's rotates and shifts are those of the statements. -/
theorem rotOp_eq_shifted (op : RotOp) (v : Byte) (c : Bool) : rotOp op v c = ⟨(shifted op v c).1, (shifted op v c).2⟩ := by
  cases op with
  | rlc => rw [shifted, rotateLeft_one_eq]; rfl
  | rrc => rw [shifted, rotateRight_one_eq]; rfl
  | sra => rw [shifted, sshiftRight_one_eq]; rfl
  | rl => exact congrArg (Rot.mk · _) (shlIn_eq v c)
  | rr => exact congrArg (Rot.mk · _) (shrIn_eq v c)
  | sll => exact congrArg (Rot.mk · _) (shlIn_eq v true)
  | sla => exact congrArg (Rot.mk · _) ((shlIn_eq v false).trans (BitVec.or_zero ..))
  | srl => exact congrArg (Rot.mk · _) ((shrIn_eq v false).trans (BitVec.or_zero ..))

theorem State.rot_eq_shifted (s : State) (op : RotOp) (v : Byte) :
    s.rot op v = ⟨(shifted op v (s.regs.f.getLsbD 0)).1, (shifted op v (s.regs.f.getLsbD 0)).2⟩ :=
  rotOp_eq_shifted op v _

/-! ## The instructions -/

theorem exec_rotInstrM (op : RotOp) (m : RegM) (s : State) : exec (rotInstrM op m) s = .next (s.rotM op m) := by
  cases op <;> rfl

theorem exec_rotInstrXd (op : RotOp) (x : Idx) (d : Byte) (s : State) : exec (rotInstrXd op x d) s = .next (s.rotXd op x d) := by
  cases op <;> rfl

theorem exec_rotInstrXdR (op : RotOp) (x : Idx) (d : Byte) (r : Reg8) (s : State) :
    exec (rotInstrXdR op x d r) s = .next (s.rotXdR op x d r) := by
  cases op <;> rfl

/-- The form on (HL) reads the byte and writes the result back (R804). -/
theorem State.rotM_hl (s : State) (op : RotOp) :
    s.rotM op .hl = ((s.rmw s.regs.hl (s.rot op (s.memVal s.regs.hl)).val).setF
      (rotateFlags8 (s.rot op (s.memVal s.regs.hl)).val (s.rot op (s.memVal s.regs.hl)).co)).tick 15 := by
  rw [rotM, mReadDone, mWrite, readDone_regs]
  rfl

/-- A register and F are written in either order (10_state R101). -/
theorem RegFile.withF_set (g : RegFile) (r : Reg8) (v f : Byte) : RegFile.set { g with f := f } r v = { g.set r v with f := f } := by
  cases r <;> rfl

/-- The copying form writes the register after the byte and F (R804). -/
theorem State.rotXdR_eq (s : State) (op : RotOp) (x : Idx) (d : Byte) (r : Reg8) :
    s.rotXdR op x d r = ((s.rmw (s.ea x d) (s.rot op (s.memVal (s.ea x d))).val).setRegs
      { s.regs.set r (s.rot op (s.memVal (s.ea x d))).val with
        f := rotateFlags8 (s.rot op (s.memVal (s.ea x d))).val (s.rot op (s.memVal (s.ea x d))).co }).tick 23 := by
  rw [rotXdR, rotXd, setF, rmw_regs, ← RegFile.withF_set]
  rfl

/-- Settles O28: `State.rotM`, on a register and on (HL). -/
theorem rotatesOnRegisterAndMemory : Obligations.RotatesOnRegisterAndMemory := by
  intro s op r hm c w v u
  have reg := exec_rotInstrM op (.reg r) s
  have hl := exec_rotInstrM op .hl s
  rw [State.rotM_hl, State.rot_eq_shifted] at hl
  rw [State.rotM, State.rot_eq_shifted] at reg
  exact ⟨runsRegs_of_setRegs reg ⟨onlyReg_set s.regs r _, rotateFlags_rotateFlags8 _ _⟩,
    runsMem_of_rmw_setF hm hl fun _ stored => ⟨rfl, stored, rotateFlags_rotateFlags8 _ _⟩⟩

/-- Settles O29: `State.rotXd`, and a register written after it in the copying form. -/
theorem rotatesOnIndexedMemory : Obligations.RotatesOnIndexedMemory := by
  intro s op x d r hm
  rw [effective_eq]
  have mem := exec_rotInstrXd op x d s
  have copy := exec_rotInstrXdR op x d r s
  rw [State.rotXd, State.rot_eq_shifted] at mem
  rw [State.rotXdR_eq, State.rot_eq_shifted] at copy
  exact ⟨runsMem_of_rmw_setF hm mem fun _ stored => ⟨rfl, stored, rotateFlags_rotateFlags8 _ _⟩,
    runsMem_of_rmw hm copy fun _ stored => ⟨onlyReg_set s.regs r _, stored, rotateFlags_rotateFlags8 _ _⟩⟩

end Sys2Proof.Machine
end

section
/-! PROOFS, 42_alu16 R600-R608. 16-bit ADD, ADC and SBC, and 16-bit INC and DEC. -/

namespace Sys2Proof.Machine

open Sys2Proof.Claims

/-! ## Sums and differences (R600) -/

/-- The sign bit of a word, on its unsigned value. -/
theorem getLsbD_fifteen (w : Word) : w.getLsbD 15 = decide (32768 ≤ w.toNat) := BitVec.msb_eq_decide w

/-- The signed value of a word, from its unsigned one. -/
theorem toInt_word (w : Word) : w.toInt = if 32768 ≤ w.toNat then (w.toNat : Int) - 65536 else w.toNat := by
  rw [BitVec.toInt_eq_toNat_cond]
  split <;> split <;> omega

theorem add16_val_toNat (a b : Word) (cin : Bool) : (add16 a b cin).val.toNat = (a.toNat + b.toNat + cin.toNat) % 65536 :=
  BitVec.toNat_ofNat ..

theorem sub16_val_toNat (a b : Word) (cin : Bool) :
    (sub16 a b cin).val.toNat = (65536 + 65536 + a.toNat - b.toNat - cin.toNat) % 65536 := by
  have := b.isLt
  have := cin.toNat_le
  simp only [sub16, BitVec.toNat_ofInt]
  omega

/-- V of a sum: the signs agree and the result's differs when the exact signed sum fits no word (R600). -/
theorem add16_v (a b : Word) (cin : Bool) : (add16 a b cin).v = overflows16 (a.toInt + b.toInt + cin.toNat) := by
  have := a.isLt
  have := b.isLt
  have := cin.toNat_le
  change (a.getLsbD 15 == b.getLsbD 15 && (add16 a b cin).val.getLsbD 15 != a.getLsbD 15) = _
  rw [Bool.eq_iff_iff]
  simp only [getLsbD_fifteen, add16_val_toNat, overflows16, toInt_word, Bool.and_eq_true, beq_iff_eq, bne_iff_ne, ne_eq,
    decide_eq_decide, decide_eq_true_eq]
  omega

/-- V of a difference: the signs differ and the result's is not `a`'s when the exact signed difference fits no word (R600). -/
theorem sub16_v (a b : Word) (cin : Bool) : (sub16 a b cin).v = overflows16 (a.toInt - b.toInt - cin.toNat) := by
  have := a.isLt
  have := b.isLt
  have := cin.toNat_le
  change (a.getLsbD 15 != b.getLsbD 15 && (sub16 a b cin).val.getLsbD 15 != a.getLsbD 15) = _
  rw [Bool.eq_iff_iff]
  simp only [getLsbD_fifteen, sub16_val_toNat, overflows16, toInt_word, Bool.and_eq_true, bne_iff_ne, ne_eq,
    decide_eq_decide, decide_eq_true_eq]
  omega

/-- C of a difference is a borrow out of bit 15 (R600). -/
theorem sub16_c (a b : Word) (cin : Bool) : (sub16 a b cin).c = decide (a.toNat < b.toNat + cin.toNat) := by
  change decide ((a.toNat : Int) - b.toNat - cin.toNat < 0) = _
  rw [decide_eq_decide]
  omega

theorem sum16_add16 (a b : Word) (cin : Bool) :
    Sum16 a b cin (add16 a b cin).val (add16 a b cin).h (add16 a b cin).c (add16 a b cin).v :=
  ⟨add16_val_toNat a b cin, rfl, rfl, add16_v a b cin⟩

theorem difference16_sub16 (a b : Word) (cin : Bool) :
    Difference16 a b cin (sub16 a b cin).val (sub16 a b cin).h (sub16 a b cin).c (sub16 a b cin).v :=
  ⟨sub16_val_toNat a b cin, rfl, sub16_c a b cin, sub16_v a b cin⟩

/-! ## The shapes of the meanings: a pair or an index register written, with or without F -/

section
variable {i : Instr} {s : State} {n : Nat} {x : Idx} {v : Word} {f : Byte}

/-- HL and F written. -/
theorem runsRegs_of_setHl_setF {P : RegFile → Prop} (h : exec i s = .next (((s.setHl v).setF f).tick n))
    (hP : P { s.regs.setHl v with f := f }) : RunsRegs i s n [] P :=
  runsRegs_of_setRegs (g := { s.regs.setHl v with f := f }) h hP

/-- An index register and F written (10_state R104). -/
theorem runsIdx_of_setIdx_setF {P : State → Prop} (h : exec i s = .next (((s.setIdx x v).setF f).tick n))
    (hP : ∀ t : State, t.regs = { s.regs with f := f } → IdxWritten s t x v → P t) : RunsIdx i s n [] P := by
  rw [State.setIdx_frame] at h
  exact ⟨_, h, by rw [List.append_nil]; rfl, hP _ rfl fun y => s.getIdx_setIdx x y v⟩

/-- An index register alone written: F as before. -/
theorem runsIdx_of_setIdx {P : State → Prop} (h : exec i s = .next ((s.setIdx x v).tick n))
    (hP : ∀ t : State, t.regs = s.regs → IdxWritten s t x v → P t) : RunsIdx i s n [] P := by
  refine runsIdx_of_setIdx_setF (f := s.regs.f) ?_ hP
  rw [h]
  cases x <;> rfl

end

/-! ## The instructions -/

/-- Settles O21: result and carries are those of `add16` or `sub16`, and F is `addFlags16` or `flags16` of them. -/
theorem wordAdditionAndSubtraction : Obligations.WordAdditionAndSubtraction := by
  intro s p x pp f c kept
  refine ⟨runsRegs_of_setHl_setF rfl ?add, runsRegs_of_setHl_setF rfl ?adc, runsRegs_of_setHl_setF rfl ?sbc,
    runsIdx_of_setIdx_setF rfl fun t hregs written => ?addIdx⟩
  case add => exact ⟨_, _, _, _, sum16_add16 .., rfl, flagsAre_mkFlags ..⟩
  case adc => exact ⟨_, _, _, _, sum16_add16 .., rfl, flagsAre_mkFlags ..⟩
  case sbc => exact ⟨_, _, _, _, difference16_sub16 .., rfl, flagsAre_mkFlags ..⟩
  case addIdx => exact ⟨_, _, _, _, sum16_add16 .., by rw [hregs]; rfl, written, hregs ▸ flagsAre_mkFlags ..⟩

/-- Settles O22: an increment is `setPair` or `setIdx` of the word plus 1, a decrement of the word minus 1. -/
theorem wordIncrementAndDecrement : Obligations.WordIncrementAndDecrement := by
  intro s p x pair index
  have inc (w : Word) : (w + 1).toNat = (w.toNat + 1) % 65536 := BitVec.toNat_add w 1
  have dec (w : Word) : (w - 1).toNat = (w.toNat + 65535) % 65536 := by bv_omega
  have pairWritten {i : Instr} {v : Word} {d : Nat} (h : exec i s = .next ((s.setPair p v).tick 6))
      (hv : v.toNat = ((s.getPair p).toNat + d) % 65536) : pair i d := by
    have written : ((s.setPair p v).getPair p).toNat = ((s.getPair p).toNat + d) % 65536 := by
      rw [State.getPair_setPair, if_pos rfl, hv]
    have others (q : Pair) (hq : q ≠ p) : (s.setPair p v).getPair q = s.getPair q := by
      rw [State.getPair_setPair, if_neg hq]
    rw [State.setPair_frame] at h
    exact ⟨_, h, rfl, written, others, s.setPair_keeps_af p v⟩
  have indexWritten {i : Instr} {v : Word} {d : Nat} (h : exec i s = .next ((s.setIdx x v).tick 10))
      (hv : v.toNat = ((s.getIdx x).toNat + d) % 65536) : index i d :=
    runsIdx_of_setIdx h fun t hregs written =>
      ⟨hregs, by rw [written x, if_pos rfl, hv], fun y hy => by rw [written y, if_neg hy]⟩
  exact ⟨pairWritten rfl (inc _), pairWritten rfl (dec _), indexWritten rfl (inc _), indexWritten rfl (dec _)⟩

end Sys2Proof.Machine
end

section
/-! PROOFS, 43_block R700-R727. One step of the sixteen block instructions: its unit as one record, its flags, and how the step ends. -/

namespace Sys2Proof.Machine

open Sys2Proof.Claims

/-! ## The direction (R700) -/

/-- The model's direction for the `up` of the statements. -/
def dirOf : Bool → Dir
  | true => .up
  | false => .down

/-- A word moved is the word plus `inc`. -/
theorem moved_eq (up : Bool) (w : Word) : moved up w = w + (dirOf up).delta := by
  apply BitVec.eq_of_toNat_eq
  rw [moved, BitVec.toNat_ofNat, BitVec.toNat_add]
  cases up <;> rfl

/-- C moved by `inc`, as the statements write it (R703). -/
theorem moved_byte_eq (up : Bool) (c : Byte) : (if up then c + 1 else c - 1) = c + (dirOf up).delta8 := by
  cases up
  · exact BitVec.sub_eq_add_neg c 1
  · rfl

/-! ## One unit: what it does beside the main registers (R704, R708, R720, R724) -/

section
variable (s : State) (k : Dir)

/-- A transfer reads at HL and writes at DE (R704, R705). -/
theorem State.ldUnit_eq :
    s.ldUnit k = { s with
      regs := (s.ldUnit k).regs, mem := s.ramWrite s.mem s.regs.de (s.memVal s.regs.hl), draws := s.draws + s.readCost s.regs.hl
      events := s.events ++ [.read s.regs.hl (s.memVal s.regs.hl), .write s.regs.de (s.memVal s.regs.hl)] } := by
  unfold ldUnit
  simp only [store_eq, readDone_eq]
  simp [ramWrite, isRam, setRegs]

/-- A search reads at HL (R708, R709). -/
theorem State.cpUnit_eq :
    s.cpUnit k = { s with
      regs := (s.cpUnit k).regs, draws := s.draws + s.readCost s.regs.hl
      events := s.events ++ [.read s.regs.hl (s.memVal s.regs.hl)] } := by
  unfold cpUnit
  rw [readDone_eq]
  rfl

/-- An input reads port BC and writes at HL (R720, R721). -/
theorem State.inUnit_eq :
    s.inUnit k = { s with
      regs := (s.inUnit k).regs, mem := s.ramWrite s.mem s.regs.hl (s.portVal s.regs.bc), draws := s.draws + s.portCost
      events := s.events ++ [.input s.regs.bc (s.portVal s.regs.bc), .write s.regs.hl (s.portVal s.regs.bc)] } := by
  unfold inUnit
  simp only [store_eq, inDone_eq]
  simp [ramWrite, isRam, setRegs]

/-- An output reads at HL and writes port BC, B already lowered (R724, R725). -/
theorem State.outUnit_eq :
    s.outUnit k = { s with
      regs := (s.outUnit k).regs, draws := s.draws + s.readCost s.regs.hl
      events := s.events ++ [.read s.regs.hl (s.memVal s.regs.hl), .output (word (s.regs.b - 1) s.regs.c) (s.memVal s.regs.hl)] } := by
  unfold outUnit
  simp only [out_eq, readDone_eq]
  simp [setRegs]

end

/-! ## The flags of a unit (R701-R703) -/

/-- The flags of a search are those of the difference, but for Y, X, PV and C (R702). -/
theorem flagsAre_cpBlockFlags (a v f : Byte) (more : Bool) :
    let h := decide (a.toNat % 16 < v.toNat % 16)
    let n := if h then a - v - 1 else a - v
    FlagsAre (cpBlockFlags a v f more) ((a - v).getLsbD 7) (decide (a = v)) (n.getLsbD 1) h (n.getLsbD 3) more true (f.getLsbD 0) := by
  intro h n
  have match_iff : a - v = 0 ↔ a = v := sub_eq_zero
  have difference := flagsAre_subFlags8 a v false
  simp only [subFlags8_val_false, match_iff, Bool.toNat_false, Nat.add_zero] at difference
  obtain ⟨hS : sFlag _ = _, hZ : zFlag _ = _, -, hH : hFlag _ = h, -⟩ := difference
  have hn : (subFlags8 a v false).val - (if h then 1 else 0) = n := by
    rw [subFlags8_val_false]
    exact (apply_ite _ _ _ _).trans (by rw [sub_zero])
  simp only [cpBlockFlags, hS, hZ, hH, hn]
  exact flagsAre_mkFlags ..

/-- The flags of an input or output (R703). -/
theorem flagsAre_ioBlockFlags (v b : Byte) (k : Nat) :
    FlagsAre (ioBlockFlags v b k) (b.getLsbD 7) (decide (b = 0)) (b.getLsbD 5) (decide (255 < k)) (b.getLsbD 3)
      (evenOnes (BitVec.ofNat 8 (k % 8) ^^^ b)) (v.getLsbD 7) (decide (255 < k)) := by
  rw [evenOnes_eq_parity]
  exact flagsAre_mkFlags ..

section
variable {f : Byte} {s z y h x pv n c : Bool}

/-- Y and X named by the flag byte itself. -/
theorem flagsAre_own_yx (hf : FlagsAre f s z y h x pv n c) : FlagsAre f s z (f.getLsbD 5) h (f.getLsbD 3) pv n c := by
  obtain ⟨hs, hz, -, hh, -, hpv, hn, hc⟩ := hf
  exact ⟨hs, hz, rfl, hh, rfl, hpv, hn, hc⟩

/-- Y, X, H and PV replaced, the other flags kept (R713). -/
theorem flagsAre_withYXHP (hf : FlagsAre f s z y h x pv n c) (y' x' h' pv' : Bool) :
    FlagsAre (withYXHP f y' x' h' pv') s z y' h' x' pv' n c := by
  obtain ⟨rfl, rfl, -, -, -, -, rfl, rfl⟩ := hf
  exact flagsAre_mkFlags ..

end

/-! ## The end of a step (R710, R713) -/

/-- A step that `goes` back to its ED byte may draw flags again; any other ends after its unit. -/
def State.finish (u : State) (redraw : State → State) (goes : Bool) : State :=
  if goes then (redraw u).repeatAgain else u.tick 16

/-- What a finished step is: its unit, but for F, the draws, PC and the T-states. -/
def State.finished (u : State) (goes : Bool) (f : Byte) (d : Nat) : State :=
  { u with
    regs := { u.regs with f := f }, draws := d
    pc := if goes then u.pc - 2 else u.pc, cycles := u.cycles + if goes then 21 else 16 }

/-- The end of a step as the statements say it (R710). -/
theorem ends_finished {s u : State} (hpc : u.pc = s.pc) (hcycles : u.cycles = s.cycles) (rep again : Bool) (f : Byte) (d : Nat) :
    Ends s (u.finished (rep && again) f d) rep again := by
  unfold Ends State.finished
  cases rep && again <;> simp [hpc, hcycles]

section
variable {u : State} {redraw : State → State} {goes : Bool}

/-- The end of a repeating form, in terms of the condition to stop. -/
theorem State.finish_not (stop : Prop) [Decidable stop] :
    (if stop then u.tick 16 else (redraw u).repeatAgain) = u.finish redraw (decide ¬stop) := by
  by_cases h : stop
  · rw [if_pos h, finish, if_neg (by simpa using h)]
  · rw [if_neg h, finish, if_pos (by simpa using h)]

/-- Nothing is drawn: F is that of the unit. -/
theorem State.finish_of_same (h : goes = true → redraw u = u) : u.finish redraw goes = u.finished goes u.regs.f u.draws := by
  cases goes with
  | false => rfl
  | true => rw [finish, if_pos rfl, h rfl]; rfl

/-- F with drawn bits. -/
theorem State.finish_of_drawn {f : Byte} {n : Nat} (h : redraw u = (u.drawn n).setF f) :
    u.finish redraw true = u.finished true f (u.draws + n) := by
  rw [finish, if_pos rfl, h]
  rfl

theorem State.repeatYX_of_ne_any (h : u.params.blockRepeatFlags ≠ .any) : u.repeatYX = u := by
  unfold repeatYX
  split
  · rfl
  · contradiction

theorem State.repeatYX_of_any (h : u.params.blockRepeatFlags = .any) :
    u.repeatYX = (u.drawn 2).setF (withYX u.regs.f (u.drawnBit 0) (u.drawnBit 1)) := by
  rw [repeatYX, h]

theorem State.repeatYXHP_of_ne_any (h : u.params.blockRepeatFlags ≠ .any) : u.repeatYXHP = u := by
  unfold repeatYXHP
  split
  · rfl
  · contradiction

theorem State.repeatYXHP_of_any (h : u.params.blockRepeatFlags = .any) :
    u.repeatYXHP = (u.drawn 4).setF (withYXHP u.regs.f (u.drawnBit 0) (u.drawnBit 1) (u.drawnBit 2) (u.drawnBit 3)) := by
  rw [repeatYXHP, h]

/-- A transfer or search ends with the flags of its unit, but for Y and X where they are drawn (R713). -/
theorem State.finish_repeatYX {sf z y h x pv n c : Bool} (hf : FlagsAre u.regs.f sf z y h x pv n c) (goes : Bool) :
    ∃ f d, u.finish repeatYX goes = u.finished goes f d ∧ YX u f goes y x ∧
      FlagsAre f sf z (f.getLsbD 5) h (f.getLsbD 3) pv n c := by
  by_cases drawn : goes = true ∧ u.params.blockRepeatFlags = .any
  · obtain ⟨rfl, hany⟩ := drawn
    exact ⟨_, _, finish_of_drawn (repeatYX_of_any hany), fun kept => absurd ⟨rfl, hany⟩ kept, flagsAre_own_yx (flagsAre_withYX hf _ _)⟩
  · have flags := flagsAre_own_yx hf
    obtain ⟨-, -, hy, -, hx, -⟩ := hf
    exact ⟨_, _, finish_of_same fun hgoes => repeatYX_of_ne_any fun hany => drawn ⟨hgoes, hany⟩, fun _ => ⟨hy, hx⟩, flags⟩

/-- An input or output ends with the flags of its unit, but for Y, X, H and PV where they are drawn (R713). -/
theorem State.finish_repeatYXHP {v b : Byte} {k : Nat} (hf : u.regs.f = ioBlockFlags v b k) (goes : Bool) :
    ∃ f d, u.finish repeatYXHP goes = u.finished goes f d ∧ IoFlags u f v b k goes := by
  have flags := hf ▸ flagsAre_ioBlockFlags v b k
  by_cases drawn : goes = true ∧ u.params.blockRepeatFlags = .any
  · obtain ⟨rfl, hany⟩ := drawn
    obtain ⟨hs, hz, -, -, -, -, hn, hc⟩ := flagsAre_withYXHP flags (u.drawnBit 0) (u.drawnBit 1) (u.drawnBit 2) (u.drawnBit 3)
    exact ⟨_, _, finish_of_drawn (repeatYXHP_of_any hany), hs, hz, hn, hc, fun kept => absurd ⟨rfl, hany⟩ kept⟩
  · obtain ⟨hs, hz, hy, hh, hx, hpv, hn, hc⟩ := flags
    exact ⟨_, _, finish_of_same fun hgoes => repeatYXHP_of_ne_any fun hany => drawn ⟨hgoes, hany⟩, hs, hz, hn, hc,
      fun _ => ⟨hy, hx, hh, hpv⟩⟩

end

/-! ## The sixteen instructions: a unit, then its end -/

section
variable (up rep : Bool) (s : State)

/-- A repeating transfer repeats while BC is not 0 (R706, R707). -/
theorem exec_transferOf :
    exec (transferOf up rep) s = .next ((s.ldUnit (dirOf up)).finish .repeatYX (rep && decide (s.regs.bc - 1 ≠ 0))) := by
  cases rep with
  | false => cases up <;> rfl
  | true =>
    have hexec : exec (transferOf up true) s = .next (s.ldUnit (dirOf up)).ldRepeat := by cases up <;> rfl
    have hbc : (s.ldUnit (dirOf up)).regs.bc = s.regs.bc - 1 := word_hiByte_loByte _
    rw [hexec, State.ldRepeat, hbc, State.finish_not, Bool.true_and]

/-- A repeating search repeats while BC is not 0 and there is no match (R711, R712). -/
theorem exec_searchOf :
    exec (searchOf up rep) s = .next ((s.cpUnit (dirOf up)).finish .repeatYX
      (rep && decide (s.regs.bc - 1 ≠ 0 ∧ s.regs.a ≠ s.memVal s.regs.hl))) := by
  cases rep with
  | false => cases up <;> rfl
  | true =>
    have hexec : exec (searchOf up true) s = .next (s.cpUnit (dirOf up)).cpRepeat := by cases up <;> rfl
    have hbc : (s.cpUnit (dirOf up)).regs.bc = s.regs.bc - 1 := word_hiByte_loByte _
    have hz : zFlag (s.cpUnit (dirOf up)).regs.f = decide (s.regs.a = s.memVal s.regs.hl) := (flagsAre_cpBlockFlags ..).2.1
    rw [hexec, State.cpRepeat, hbc, hz, State.finish_not, Bool.true_and]
    simp only [decide_eq_true_eq, not_or, ne_eq]

/-- A repeating input repeats while B is not 0 (R722, R723). -/
theorem exec_inputOf :
    exec (inputOf up rep) s = .next ((s.inUnit (dirOf up)).finish .repeatYXHP (rep && decide (s.regs.b - 1 ≠ 0))) := by
  cases rep with
  | false => cases up <;> rfl
  | true =>
    have hexec : exec (inputOf up true) s = .next (s.inUnit (dirOf up)).ioRepeat := by cases up <;> rfl
    rw [hexec, State.ioRepeat, State.finish_not, Bool.true_and]
    rfl

/-- A repeating output repeats while B is not 0 (R726, R727). -/
theorem exec_outputOf :
    exec (outputOf up rep) s = .next ((s.outUnit (dirOf up)).finish .repeatYXHP (rep && decide (s.regs.b - 1 ≠ 0))) := by
  cases rep with
  | false => cases up <;> rfl
  | true =>
    have hexec : exec (outputOf up true) s = .next (s.outUnit (dirOf up)).ioRepeat := by cases up <;> rfl
    rw [hexec, State.ioRepeat, State.finish_not, Bool.true_and]
    rfl

end

/-- Settles O23: the unit is `State.ldUnit`, F in it `ldBlockFlags`. -/
theorem blockTransferStep : Obligations.BlockTransferStep := by
  intro s up rep hm
  obtain ⟨f, d, hend, hyx, hflags⟩ :=
    State.finish_repeatYX (u := s.ldUnit (dirOf up)) (flagsAre_mkFlags ..) (rep && decide (s.regs.bc - 1 ≠ 0))
  rw [exec_transferOf, hend, moved_eq, moved_eq]
  rw [State.ldUnit_eq] at hyx ⊢
  exact ⟨_, rfl, rfl, rfl, word_hiByte_loByte _, word_hiByte_loByte _, word_hiByte_loByte _, storedByte_ramWrite hm _ _,
    ends_finished rfl rfl _ _ _ _, hyx, hflags⟩

/-- Settles O24: the unit is `State.cpUnit`, F in it `cpBlockFlags`. -/
theorem blockSearchStep : Obligations.BlockSearchStep := by
  intro s up rep
  obtain ⟨f, d, hend, hyx, hflags⟩ :=
    State.finish_repeatYX (u := s.cpUnit (dirOf up)) (flagsAre_cpBlockFlags ..)
      (rep && decide (s.regs.bc - 1 ≠ 0 ∧ s.regs.a ≠ s.memVal s.regs.hl))
  rw [exec_searchOf, hend, moved_eq]
  rw [State.cpUnit_eq] at hyx ⊢
  exact ⟨_, rfl, rfl, rfl, word_hiByte_loByte _, rfl, word_hiByte_loByte _, ends_finished rfl rfl _ _ _ _, hyx, hflags⟩

/-- Settles O25: the unit is `State.inUnit`, F in it `ioBlockFlags`. -/
theorem blockInputStep : Obligations.BlockInputStep := by
  intro s up rep hm
  obtain ⟨f, d, hend, hflags⟩ :=
    State.finish_repeatYXHP (u := s.inUnit (dirOf up)) rfl (rep && decide (s.regs.b - 1 ≠ 0))
  rw [exec_inputOf, hend, moved_eq, moved_byte_eq]
  rw [State.inUnit_eq] at hflags ⊢
  exact ⟨_, s.portVal s.regs.bc, rfl, rfl, rfl, storedByte_ramWrite hm _ _, ends_finished rfl rfl _ _ _ _, hflags⟩

/-- Settles O26: the unit is `State.outUnit`, F in it `ioBlockFlags`. -/
theorem blockOutputStep : Obligations.BlockOutputStep := by
  intro s up rep
  obtain ⟨f, d, hend, hflags⟩ :=
    State.finish_repeatYXHP (u := s.outUnit (dirOf up)) rfl (rep && decide (s.regs.b - 1 ≠ 0))
  rw [exec_outputOf, hend, moved_eq]
  rw [State.outUnit_eq] at hflags ⊢
  exact ⟨_, rfl, rfl, rfl, ends_finished rfl rfl _ _ _ _, hflags⟩

end Sys2Proof.Machine
end

section
/-! PROOFS, 44_rotate_shift R800-R803, R820, R821. The accumulator rotates, and the digit rotates RLD and RRD. -/

namespace Sys2Proof.Machine

open Sys2Proof.Claims

/-- Settles O27: each is `State.accRot` of its rotate, which writes S, Z and PV as they were. -/
theorem accumulatorRotatesKeepSZP : Obligations.AccumulatorRotatesKeepSZP := by
  intro s f rot
  have of_accRot {i : Instr} {op : RotOp} (h : exec i s = .next ((s.accRot (rotOp op s.regs.a (cFlag f))).tick 4)) : rot i op := by
    rw [rotOp_eq_shifted] at h
    exact runsRegs_of_setRegs h ⟨rfl, flagsAre_mkFlags ..⟩
  exact ⟨of_accRot rfl, of_accRot rfl, of_accRot rfl, of_accRot rfl⟩

/-! ## Two digits as a byte (R820, R821) -/

/-- The low digits of two bytes, one above the other. -/
theorem nibbles_eq (hi lo : Byte) : nibbles hi.toNat lo.toNat = hi <<< 4 ||| (lo &&& 0x0F) := by
  have low : lo.toNat &&& 15 = lo.toNat % 16 := Nat.and_two_pow_sub_one_eq_mod lo.toNat 4
  have high : hi.toNat <<< 4 % 256 = (hi.toNat % 16) <<< 4 := by
    rw [Nat.shiftLeft_eq, Nat.shiftLeft_eq]
    omega
  apply BitVec.eq_of_toNat_eq
  calc (nibbles hi.toNat lo.toNat).toNat
      = hi.toNat % 16 * 16 + lo.toNat % 16 := by
        rw [nibbles, BitVec.toNat_ofNat]
        omega
    _ = (hi.toNat % 16) <<< 4 ||| lo.toNat % 16 := by
        rw [← Nat.shiftLeft_add_eq_or_of_lt (Nat.mod_lt _ (by decide)), Nat.shiftLeft_eq]
    _ = (hi <<< 4 ||| (lo &&& 0x0F)).toNat := by
        rw [BitVec.toNat_or, BitVec.toNat_shiftLeft, BitVec.toNat_and, high, ← low]
        rfl

/-- The high digit of a byte, shifted down. -/
theorem toNat_div_sixteen (v : Byte) : v.toNat / 16 = (v >>> 4).toNat :=
  ((BitVec.toNat_ushiftRight v 4).trans (Nat.shiftRight_eq_div_pow ..)).symm

/-- The high digit moved down and up again is the byte with its low digit cleared. -/
theorem ushiftRight_shiftLeft_four (v : Byte) : v >>> 4 <<< 4 = v &&& (0xF0 : Byte) := by
  revert v
  decide

/-- The high digit moved down leaves no other bit. -/
theorem ushiftRight_four_and (v : Byte) : v >>> 4 &&& (0x0F : Byte) = v >>> 4 := by
  revert v
  decide

/-! ## RLD and RRD -/

/-- RLD turns the digits to the left (R820). -/
theorem execRld_eq (s : State) :
    let m := s.memVal s.regs.hl
    let a := (s.regs.a &&& (0xF0 : Byte)) ||| (m >>> 4)
    execRld s = .next (((s.rmw s.regs.hl ((m <<< 4) ||| (s.regs.a &&& 0x0F))).setRegs
      { s.regs with a := a, f := rotateFlags8 a (cFlag s.regs.f) }).tick 18) := by
  intro m a
  rw [execRld, toNat_div_sixteen, toNat_div_sixteen, nibbles_eq, nibbles_eq, ushiftRight_shiftLeft_four, ushiftRight_four_and]

/-- RRD turns the digits to the right (R821). -/
theorem execRrd_eq (s : State) :
    let m := s.memVal s.regs.hl
    let a := (s.regs.a &&& 0xF0) ||| (m &&& 0x0F)
    execRrd s = .next (((s.rmw s.regs.hl ((s.regs.a <<< 4) ||| (m >>> 4))).setRegs
      { s.regs with a := a, f := rotateFlags8 a (cFlag s.regs.f) }).tick 18) := by
  intro m a
  rw [execRrd, toNat_div_sixteen, toNat_div_sixteen, nibbles_eq, nibbles_eq, ushiftRight_shiftLeft_four, ushiftRight_four_and]

/-- Settles O30, by `execRld_eq` and `execRrd_eq`: both write one byte back, then A and the flags of R504. -/
theorem digitRotates : Obligations.DigitRotates := by
  intro s hm m a turn
  have of_rmw {i : Instr} {w a' : Byte}
      (h : exec i s = .next (((s.rmw s.regs.hl w).setRegs { s.regs with a := a', f := rotateFlags8 a' (cFlag s.regs.f) }).tick 18)) :
      turn i w a' :=
    runsMem_of_rmw hm h fun _ stored => ⟨rfl, stored, rotateFlags_rotateFlags8 _ _⟩
  exact ⟨of_rmw (execRld_eq s), of_rmw (execRrd_eq s)⟩

/-! ## There and back -/

section
variable (a m : Byte)

/-- Turned left and then right, the low digit of A is back from the low digit of the byte. -/
theorem digits_back_in_a : ((a &&& (0xF0 : Byte) ||| m >>> 4) &&& (0xF0 : Byte)) ||| ((m <<< 4 ||| a &&& 0x0F) &&& 0x0F) = a := by
  ext i hi
  interval_cases i <;> simp

/-- Turned left and then right, the high digit of the byte is back from A, and its low digit from its high one. -/
theorem digits_back_in_byte : (a &&& (0xF0 : Byte) ||| m >>> 4) <<< 4 ||| (m <<< 4 ||| a &&& 0x0F) >>> 4 = m := by
  ext i hi
  interval_cases i <;> simp

end

/-- Settles O31, from O30 twice: in plain RAM, RRD reads the byte that RLD stored. -/
theorem rrdUndoesRld : Obligations.RrdUndoesRld := by
  intro s t u hm hram ht hu
  have control : SameControl s t := exec_next ht
  obtain ⟨⟨t', ht', -, hta, ⟨htmem, htrest⟩, -⟩, -⟩ := digitRotates s hm
  obtain rfl : t' = t := by rw [ht] at ht'; cases ht'; rfl
  obtain ⟨-, u', hu', -, hua, ⟨humem, hurest⟩, -⟩ := digitRotates t' (control.mem_wf hm)
  obtain rfl : u' = u := by rw [hu] at hu'; cases hu'; rfl
  have ha : t'.regs.a = (s.regs.a &&& (0xF0 : Byte)) ||| (s.memVal s.regs.hl >>> 4) := congrArg RegFile.a hta
  have hhl : t'.regs.hl = s.regs.hl := by rw [hta]; rfl
  have hram' : t'.isRam s.regs.hl = true := (State.isRam_congr control.ram _).trans hram
  rw [hram, if_pos rfl] at htmem
  rw [hhl, hram', if_pos rfl] at humem
  rw [hhl] at hurest hua
  rw [State.memVal_of_ram hram', htmem] at humem hua
  refine ⟨?_, fun b => ?_⟩
  · rw [hua, ha]
    exact digits_back_in_a _ _
  · by_cases hb : b = s.regs.hl.toNat
    · rw [hb, humem, ha, digits_back_in_byte, State.memVal_of_ram hram]
    · rw [hurest b hb, htrest b hb]

end Sys2Proof.Machine
end

section
/-! PROOFS, 45_bit R900-R911. BIT, and SET and RES in their operand forms. -/

namespace Sys2Proof.Machine

open Sys2Proof.Claims

/-! ## BIT (R900-R903) -/

/-- The flags of BIT: Z and PV the complement of the bit tested, which for bit 7 is S too (R900). -/
theorem flagsAre_bitFlags (b : BitVec 3) (v xy f : Byte) :
    FlagsAre (bitFlags b v xy f) (decide (b = 7) && v.getLsbD b.toNat) (!v.getLsbD b.toNat) (xy.getLsbD 5) true (xy.getLsbD 3)
      (!v.getLsbD b.toNat) false (f.getLsbD 0) := by
  have sign : (decide (b = 7) && v.getLsbD b.toNat) = (b == 7 && v.getLsbD 7) := by
    by_cases hb : b = 7
    · subst hb
      rfl
    · rw [decide_eq_false hb, beq_false_of_ne hb, Bool.false_and, Bool.false_and]
  rw [sign]
  exact flagsAre_mkFlags ..

/-- F alone written, after one byte of memory has been read and free values may have been used. -/
theorem runsRegs_of_readDone_drawn_setF {i : Instr} {s : State} {n k : Nat} {a : Word} {f : Byte} {P : RegFile → Prop}
    (h : exec i s = .next ((((s.readDone a).drawn k).setF f).tick n)) (hP : P { s.regs with f := f }) :
    RunsRegs i s n [.read a (s.memVal a)] P := by
  rw [State.readDone_eq] at h
  exact ⟨_, h, rfl, hP⟩

/-- `BIT b,(HL)` takes Y and X from the byte tested, or from a drawn one (R902). -/
theorem execBitBHl_eq (b : BitVec 3) (s : State) : ∃ xy k,
    execBitBHl b s = .next ((((s.readDone s.regs.hl).drawn k).setF (bitFlags b (s.memVal s.regs.hl) xy s.regs.f)).tick 12) ∧
      (s.params.bitHlXy = .operand → xy = s.memVal s.regs.hl) := by
  unfold execBitBHl
  cases s.params.bitHlXy with
  | operand => exact ⟨_, 0, rfl, fun _ => rfl⟩
  | any => exact ⟨_, 1, rfl, nofun⟩

/-- `BIT b,(IXY+d)` takes Y and X from the high byte of its address, or from a drawn one (R903). -/
theorem execBitBXd_eq (x : Idx) (b : BitVec 3) (d : Byte) (s : State) : ∃ xy k,
    execBitBXd x b d s = .next ((((s.readDone (s.ea x d)).drawn k).setF (bitFlags b (s.memVal (s.ea x d)) xy s.regs.f)).tick 20) ∧
      (s.params.bitIdxXy = .addrHigh → xy = hiByte (s.ea x d)) := by
  unfold execBitBXd
  cases s.params.bitIdxXy with
  | addrHigh => exact ⟨_, 0, rfl, fun _ => rfl⟩
  | any => exact ⟨_, 1, rfl, nofun⟩

/-- Y and X from the high byte of an address are its bits 13 and 11. -/
theorem hiByte_yx (a : Word) : (hiByte a).getLsbD 5 = a.getLsbD 13 ∧ (hiByte a).getLsbD 3 = a.getLsbD 11 := by
  simp [hiByte]

/-- Settles O32: each form writes `bitFlags` of the byte tested, Y and X from the byte its parameter selects. -/
theorem bitTestWritesFlagsOnly : Obligations.BitTestWritesFlagsOnly := by
  intro s b r x d
  rw [effective_eq]
  obtain ⟨xy, k, hl, operand⟩ := execBitBHl_eq b s
  obtain ⟨xy', k', xd, addrHigh⟩ := execBitBXd_eq x b d s
  refine ⟨runsRegs_of_setRegs rfl ⟨rfl, flagsAre_bitFlags ..⟩,
    runsRegs_of_readDone_drawn_setF hl ⟨_, _, ⟨rfl, flagsAre_bitFlags ..⟩, fun hp => ?_⟩,
    runsRegs_of_readDone_drawn_setF xd ⟨_, _, ⟨rfl, flagsAre_bitFlags ..⟩, fun hp => ?_⟩⟩
  · rw [operand hp]
    exact ⟨rfl, rfl⟩
  · rw [addrHigh hp]
    exact hiByte_yx _

/-! ## SET and RES (R904-R911) -/

/-- The mask of one bit. -/
theorem getLsbD_one_shiftLeft (n : Nat) {k : Nat} (hk : k < 8) : ((1 : Byte) <<< n).getLsbD k = decide (k = n) := by
  have mask : ((1 : Byte) <<< n).getLsbD k = (decide (n < 8) && decide (n = k)) := BitVec.getLsbD_twoPow ..
  rw [mask, ← Bool.decide_and, decide_eq_decide]
  omega

/-- SET sets the one bit (R904). -/
theorem getLsbD_setBit (b : BitVec 3) (v : Byte) {k : Nat} (hk : k < 8) :
    (setBit b v).getLsbD k = if k = b.toNat then true else v.getLsbD k := by
  rw [setBit, BitVec.getLsbD_or, getLsbD_one_shiftLeft _ hk]
  by_cases h : k = b.toNat <;> simp [h]

/-- RES clears the one bit (R908). -/
theorem getLsbD_resBit (b : BitVec 3) (v : Byte) {k : Nat} (hk : k < 8) :
    (resBit b v).getLsbD k = if k = b.toNat then false else v.getLsbD k := by
  rw [resBit, BitVec.getLsbD_and, BitVec.getLsbD_not, getLsbD_one_shiftLeft _ hk]
  by_cases h : k = b.toNat <;> simp [h, hk]

section
variable {i : Instr} {s : State} {n : Nat} {a : Word} {w : Byte}

/-- A byte of memory read and one written back, the main registers kept (20_memory R210). -/
theorem runsMem_of_rmw_alone (hm : Memory.wf s.mem) (h : exec i s = .next ((s.rmw a w).tick n)) :
    RunsMem i s n [.read a (s.memVal a), .write a w] fun g m => g = s.regs ∧ StoredByte s m a w := by
  have kept : s.rmw a w = (s.rmw a w).setRegs s.regs := by rw [State.rmw_eq]; rfl
  rw [kept] at h
  exact runsMem_of_rmw hm h fun _ stored => ⟨rfl, stored⟩

/-- The same, and the byte written into a real register too (R907, R911). -/
theorem runsMem_of_rmw_setReg {r : Reg8} (hm : Memory.wf s.mem) (h : exec i s = .next (((s.rmw a w).setReg r w).tick n)) :
    RunsMem i s n [.read a (s.memVal a), .write a w] fun g m => OnlyReg s.regs g r w ∧ StoredByte s m a w := by
  rw [State.setReg, State.rmw_regs] at h
  exact runsMem_of_rmw hm h fun _ stored => ⟨onlyReg_of_set s.regs r w, stored⟩

end

/-- Settles O33: the four forms of SET share `setBit`, those of RES `resBit`. -/
theorem setAndResChangeOneBit : Obligations.SetAndResChangeOneBit := by
  intro s b r x d hm
  rw [effective_eq]
  intro isBit a forms
  have of_routine {on : Bool} {p : Byte → Byte} {iR iHl iXd iXdR : Instr} (hp : ∀ v, isBit on v (p v))
      (hR : exec iR s = .next ((s.setReg r (p (s.getReg r))).tick 8))
      (hHl : exec iHl s = .next ((s.rmw s.regs.hl (p (s.memVal s.regs.hl))).tick 15))
      (hXd : exec iXd s = .next ((s.rmw a (p (s.memVal a))).tick 23))
      (hXdR : exec iXdR s = .next (((s.rmw a (p (s.memVal a))).setReg r (p (s.memVal a))).tick 23)) :
      forms on iR iHl iXd iXdR :=
    ⟨runsRegs_of_setRegs hR ⟨_, hp _, onlyReg_of_set s.regs r _⟩, ⟨_, hp _, runsMem_of_rmw_alone hm hHl⟩,
      ⟨_, hp _, runsMem_of_rmw_alone hm hXd, runsMem_of_rmw_setReg hm hXdR⟩⟩
  exact ⟨of_routine (fun v _ => getLsbD_setBit b v) rfl rfl rfl rfl, of_routine (fun v _ => getLsbD_resBit b v) rfl rfl rfl rfl⟩

end Sys2Proof.Machine
end

section
/-! PROOFS, 46_jump_call_return R1010-R1031. Calls, restarts and returns, and the RETN that ends an NMI handler. -/

namespace Sys2Proof.Machine

open Sys2Proof.Claims

/-! ## Calls and restarts (R1010, R1011, R1020) -/

/-- Settles O35: a call is `State.push` of PC, then `setPc`. -/
theorem callsPushTheReturnAddress : Obligations.CallsPushTheReturnAddress := by
  intro s cc nn y hm called
  rw [holds_eq]
  have pushed {i : Instr} {a : Word} {n : Nat} (h : exec i s = .next (((s.push s.pc).setPc a).tick n)) : called i a n := by
    rw [State.push_eq] at h
    exact ⟨_, h, rfl, storedWord_push hm _ _⟩
  exact ⟨pushed rfl, pushed rfl, fun hc => pushed (if_pos hc), fun hc => if_neg (by rw [hc]; decide)⟩

/-! ## Returns (R1012, R1013, R1030, R1031) -/

/-- `PC <- Pop16()` (R1012). -/
theorem State.popPc_eq (s : State) :
    s.popPc = { s with
      sp := s.sp + 2, pc := s.popVal, draws := s.draws + s.readCost s.sp + s.readCost (s.sp + 1)
      events := s.events ++ reads2 s.sp (s.memVal s.sp) ((s.readDone s.sp).memVal (s.sp + 1)) } := by
  rw [State.popPc, State.popDone_eq]
  rfl

/-- RETI pops PC, writes IFF1 by its parameter and signals (R1030). -/
theorem State.returnInt_eq (s : State) :
    s.returnInt = (s.popPc.setIff1 (if s.params.retiRestoresIff then s.iff2 else s.iff1)).emit .retiSignal := by
  rw [State.returnInt, State.popPc_eq]
  cases s.params.retiRestoresIff <;> rfl

/-- Settles O36: a return is `State.popPc`, then IFF1 and the signal. -/
theorem returnsPopPc : Obligations.ReturnsPopPc := by
  intro s cc lo hi returned
  rw [holds_eq]
  have popped {i : Instr} {n : Nat} (h : exec i s = .next (s.popPc.tick n)) : returned i n s.iff1 [] := by
    rw [State.popPc_eq] at h
    exact ⟨_, h, by rw [List.append_nil]; rfl⟩
  have retn : exec .retn s = .next ((s.popPc.setIff1 s.iff2).tick 14) := rfl
  have reti : exec .reti s = .next (s.returnInt.tick 14) := rfl
  rw [State.popPc_eq] at retn
  rw [State.returnInt_eq, State.popPc_eq] at reti
  exact ⟨popped rfl, ⟨_, retn, by rw [List.append_nil]; rfl⟩, ⟨_, reti, rfl⟩, fun hc => popped (if_pos hc),
    fun hc => if_neg (by rw [hc]; decide)⟩

/-! ## The return from an NMI (R1031, 60_exceptions R1322) -/

/-- The word at SP, where a store below the old SP put it in plain RAM (20_memory R213). -/
theorem State.popVal_of_storedWord {s t : State} {v : Word} (hst : StoredWord s t.mem (s.sp - 2) (loByte v) (hiByte v))
    (hsp : t.sp = s.sp - 2) (hram : t.ram = s.ram) (hram1 : s.isRam (s.sp - 1) = true) (hram2 : s.isRam (s.sp - 2) = true) :
    t.popVal = v := by
  obtain ⟨hlo, hhi, -⟩ := hst
  have hnext : s.sp - 2 + 1 = s.sp - 1 := by bv_omega
  have hr : ∀ a, t.isRam a = s.isRam a := State.isRam_congr hram
  rw [hram2, if_pos rfl] at hlo
  rw [hnext, hram1, if_pos rfl] at hhi
  rw [State.popVal, State.memVal2, hsp, hnext, State.memVal_readDone_of_ram ((hr _).trans hram1),
    State.memVal_of_ram ((hr _).trans hram2), hlo, hhi, word_hiByte_loByte]

/-- The model's IFF2 after an NMI acceptance is that of the statements (R1322, R1327, log 16). -/
theorem State.acceptedIff2_nmi (s : State) : s.acceptedIff2 .nmi = iff2AfterNmi s := by
  unfold State.acceptedIff2 iff2AfterNmi
  cases s.params.nmiIff2 <;> rfl

/-- At a boundary with an NMI pending, a step that goes on accepts it (R1312, R1320, R1322). -/
theorem step_accepts_nmi {s t : State} (hm : Memory.wf s.mem) (hf : s.fetching = none) (hn : s.nmiPending = true)
    (h : step s = .next t) : Accepted s t .nmi (iff2AfterNmi s) false 11 [] ∧ t.pc = 0x0066 := by
  have hs : step s = acceptNmi s.beginStep := by simp [step, coreStep, hf, hn]
  rw [hs] at h
  cases checkReads_next h
  rw [State.acceptPush_eq, State.acceptedIff2_nmi, refreshed_eq]
  exact ⟨⟨rfl, storedWord_push hm _ _⟩, rfl⟩

/-- Settles O48, from O36: the word that RETN pops is the PC that the acceptance pushed. -/
theorem retnRestoresAfterNmi : Obligations.RetnRestoresAfterNmi := by
  intro s t hm hf hn hram1 hram2 ht
  obtain ⟨⟨heq, hst⟩, -⟩ := step_accepts_nmi hm hf hn ht
  obtain ⟨-, ⟨u, hu, hueq⟩, -⟩ := returnsPopPc t .nz
  have hsp : t.sp = s.sp - 2 := by rw [heq]
  have hiff2 : t.iff2 = iff2AfterNmi s := by rw [heq]
  have hpop : t.popVal = s.pc := State.popVal_of_storedWord hst hsp (by rw [heq]) hram1 hram2
  refine ⟨_, hu.trans (congrArg _ hueq), hpop, ?_, hiff2, hiff2, by rw [heq]⟩
  show t.sp + 2 = s.sp
  rw [hsp]
  bv_omega

end Sys2Proof.Machine
end

section
/-! PROOFS, 47_cpu_control R1100-R1106. The control instructions, and the halted step, once and for any number of steps. -/

namespace Sys2Proof.Machine

open Sys2Proof.Claims

/-- Settles O37: each control instruction is one update per field it writes, and `tick`. -/
theorem cpuControlEffects : Obligations.CpuControlEffects := by
  intro s m op
  exact ⟨rfl, rfl, rfl, rfl, rfl, rfl⟩

/-! ## The halted step (R1102) -/

/-- Beginning a step and the halted step itself, as one record (R1102, R1311). -/
theorem haltedStep_beginStep (s : State) :
    haltedStep s.beginStep = .next { s with r := refreshCount s.r 1, intInhibit := .none, cycles := 4, events := [] } := by
  rw [← refreshed_eq]
  rfl

/-- Settles O46: of the five moves of a step only the halted one is open. -/
theorem haltedStepOnlyRefreshes : Obligations.HaltedStepOnlyRefreshes := by
  intro s hf hh hn hdue
  have ha : ¬s.intAccepted = true := mt (intAccepted_iff hf hn).mp hdue
  have hs : step s = haltedStep s.beginStep := by simp [step, coreStep, hf, hn, ha, hh]
  exact hs.trans (haltedStep_beginStep s)

/-! ## Runs (R1101) -/

/-- A run whose first step goes on is the run of the remaining steps from there. -/
theorem run_succ_of_step {M : Host.Core} {s t : M.State} (n : Nat) (h : M.step s = .next t) : M.run (n + 1) s = M.run n t := by
  rw [Host.Core.run, h]

/-- Settles O47, by induction on the number of steps: with IFF1 clear no INT is due, so O46 gives the first step, and its next state meets
the premises again. -/
theorem haltWithoutInterruptsLasts : Obligations.HaltWithoutInterruptsLasts := by
  intro s n hf hh hn hiff
  induction n generalizing s with
  | zero => exact ⟨s, rfl, by rw [refreshCount_zero]⟩
  | succ n ih =>
    have hdue : ¬IntDue s := by simp [IntDue, hiff]
    have hstep := haltedStepOnlyRefreshes s hf hh hn hdue
    obtain ⟨t, hrun, ht⟩ := ih { s with r := refreshCount s.r 1, intInhibit := .none, cycles := 4, events := [] } hf hh hn hiff
    rw [refreshCount_add, Nat.add_comm 1 n] at ht
    exact ⟨t, (run_succ_of_step n hstep).trans hrun, ht⟩

end Sys2Proof.Machine
end

section
/-! PROOFS, 60_exceptions R1312, R1320-R1325. Taking an interrupt: its push may read SP or faults, and what it does is the shared record, a
new PC and, in IM 2, the two reads of the vector. -/

namespace Sys2Proof.Machine

open Sys2Proof.Claims

section
variable {s : State} {k : AckKind} {iff2 nmi : Bool}

/-! ## The read of SP (70_reset R1403) -/

/-- Where SP may be read, an acceptance goes on. -/
theorem checkReads_sp_of_readable (h : SpReadable s) (r : Result) : checkReads s.beginStep [.sp] r = r := by
  rcases checkReads_cases s.beginStep [.sp] r with ⟨-, hr⟩ | ⟨n, hn, -⟩
  · exact hr
  · obtain ⟨hp, hmem, hu⟩ := State.unwrittenRead_some hn
    cases List.mem_singleton.mp hmem
    exact absurd hu (h hp)

/-- Where SP may not be read, its push faults. -/
theorem checkReads_sp_of_not_readable (h : ¬SpReadable s) (r : Result) :
    checkReads s.beginStep [.sp] r = .fault (.readBeforeWrite .sp) := by
  obtain ⟨hp, hu⟩ : s.params.resetRegs = .faultOnRead ∧ .sp ∈ s.unwritten := by simpa [SpReadable] using h
  simp [checkReads, State.unwrittenRead, State.beginStep, hp, hu]

/-! ## What an acceptance does -/

/-- An acceptance that reads nothing after its push: the shared record, a new PC and T-states (R1320). -/
theorem accepted_of_jump (hm : Memory.wf s.mem) (hiff2 : s.acceptedIff2 k = iff2)
    (hnmi : (if k = .nmi then false else s.nmiPending) = nmi) (pc : Word) (n : Nat) :
    Accepted s (((s.beginStep.acceptPush k).setPc pc).tick n) k iff2 nmi (0 + n) [] := by
  rw [State.acceptPush_eq, refreshed_eq, ← hiff2, ← hnmi]
  exact ⟨rfl, storedWord_push hm _ _⟩

/-- The acceptance in IM 2 reads the vector after its push, in memory as the push left it (R1323). -/
theorem accepted_of_vector (hm : Memory.wf s.mem) (hnmi : s.nmiPending = nmi) (vec pc : Word) (n : Nat) :
    Accepted s ((((s.beginStep.acceptPush .im2).readDone2 vec).setPc pc).tick n) .im2 false nmi (0 + n)
      (reads2 vec ((s.beginStep.acceptPush .im2).memVal vec) (((s.beginStep.acceptPush .im2).readDone vec).memVal (vec + 1))) := by
  rw [State.readDone2_eq, State.acceptPush_eq, refreshed_eq, ← hnmi]
  exact ⟨rfl, storedWord_push hm _ _⟩

/-! ## The step that takes an interrupt (R1312) -/

/-- At a boundary with an NMI pending the step is its acceptance (R1312). -/
theorem step_of_nmiPending (hf : s.fetching = none) (hn : s.nmiPending = true) : step s = acceptNmi s.beginStep := by
  simp [step, coreStep, hf, hn]

/-- At a boundary where an INT is due the step is its acceptance (R1312). -/
theorem step_of_intDue (h : IntDue s) : step s = acceptInt s.beginStep := by
  obtain ⟨hf, hn, -⟩ := id h
  simp [step, coreStep, hf, hn, (intAccepted_iff hf hn).mpr h]

end

/-- The address of the restart of an RST byte (R1325). -/
theorem toNat_rstTarget (v : Byte) : (word 0 (v &&& 0x38)).toNat = v.toNat / 8 % 8 * 8 := by
  revert v
  decide

/-- Settles O40: the acceptance is the shared record and PC at 0x0066, after the read of SP. -/
theorem nmiAcceptance : Obligations.NmiAcceptance := by
  intro s hm hf hn
  rw [step_of_nmiPending hf hn]
  exact ⟨fun hsp => ⟨_, checkReads_sp_of_readable hsp _, accepted_of_jump hm s.acceptedIff2_nmi rfl _ _, rfl⟩,
    fun hsp => checkReads_sp_of_not_readable hsp _⟩

/-- Settles O41: in IM 1 and, with an RST byte, in IM 0 the acceptance is the shared record and a new PC, after the read of SP. -/
theorem interruptModesZeroAndOne : Obligations.InterruptModesZeroAndOne := by
  intro s hm hdue
  obtain ⟨-, hn, -⟩ := id hdue
  rw [step_of_intDue hdue]
  have him1 (h : s.im = .im1) : acceptInt s.beginStep = acceptIm1 s.beginStep := by
    rw [acceptInt, show s.beginStep.im = .im1 from h]
  have him0 (h : s.im = .im0) (hrst : s.intData &&& 0xC7 = 0xC7) : acceptInt s.beginStep =
      checkReads s.beginStep [.sp] (.next (((s.beginStep.acceptPush .im0).setPc (word 0 (s.intData &&& 0x38))).tick 13)) := by
    rw [acceptInt, show s.beginStep.im = .im0 from h]
    exact if_pos hrst
  refine ⟨fun h hsp => ?_, fun h hrst hsp => ?_, fun h hsp => ?_⟩
  · rw [him1 h]
    exact ⟨_, checkReads_sp_of_readable hsp _, accepted_of_jump (k := .im1) hm rfl hn _ _, rfl⟩
  · rw [him0 h hrst]
    exact ⟨_, checkReads_sp_of_readable hsp _, accepted_of_jump (k := .im0) hm rfl hn _ _, toNat_rstTarget _⟩
  · rcases h with h | ⟨h, hrst⟩
    · rw [him1 h]
      exact checkReads_sp_of_not_readable hsp _
    · rw [him0 h hrst]
      exact checkReads_sp_of_not_readable hsp _

/-- Settles O42: the vector is read in memory as the push left it, and the reads change no memory. -/
theorem interruptModeTwoAcceptance : Obligations.InterruptModeTwoAcceptance := by
  intro s hm hdue him
  obtain ⟨-, hn, -⟩ := id hdue
  have hstep : step s = checkReads s.beginStep [.sp] (.next ((((s.beginStep.acceptPush .im2).readDone2 (word s.i s.intData)).setPc
      ((s.beginStep.acceptPush .im2).memVal2 (word s.i s.intData))).tick 19)) := by
    rw [step_of_intDue hdue, acceptInt, show s.beginStep.im = .im2 from him]
    rfl
  have hram (a : Word) : (s.beginStep.acceptPush .im2).isRam a = s.isRam a :=
    State.isRam_congr (by rw [State.acceptPush_eq]; rfl) a
  have hmem : (s.beginStep.acceptPush .im2).mem = ((s.beginStep.acceptPush .im2).readDone2 (word s.i s.intData)).mem := by
    rw [State.readDone2_eq]
  rw [hstep]
  refine ⟨fun hsp => ?_, fun hsp => checkReads_sp_of_not_readable hsp _⟩
  refine ⟨_, _, _, checkReads_sp_of_readable hsp _, accepted_of_vector hm hn _ _ _, rfl, fun h => ?_, fun h => ?_⟩
  · rw [State.memVal_of_ram ((hram _).trans h), hmem, State.tick_mem, State.setPc_mem]
  · rw [State.memVal_readDone_of_ram ((hram _).trans h), hmem, State.tick_mem, State.setPc_mem]

end Sys2Proof.Machine
end

section
/-! PROOFS, 70_reset_and_hazards R1400, R1402. Reset, at power-on and of a running machine. -/

namespace Sys2Proof.Machine

open Sys2Proof.Claims

/-- The list names every register that R1400 leaves unspecified. -/
theorem RegName.mem_all (n : RegName) : n ∈ RegName.all := by
  cases n with
  | main r | shadow r => cases r <;> decide
  | flag k | shadowFlag k => cases k <;> decide
  | half x k => cases x <;> cases k <;> decide
  | sp => decide

/-- The marks right after a reset (10_state R130). -/
theorem unwrittenAtReset_marks (p : ResetRegs) :
    (p = .draw → unwrittenAtReset p = []) ∧ (p = .faultOnRead → ∀ n, n ∈ unwrittenAtReset p) := by
  constructor
  · rintro rfl
    rfl
  · rintro rfl
    exact RegName.mem_all

theorem State.reset_resetState : State.reset.resetState := ⟨rfl, rfl, rfl, rfl, rfl, rfl, rfl, rfl, rfl⟩

theorem State.hostReset_resetState (s : State) : s.hostReset.resetState := ⟨rfl, rfl, rfl, rfl, rfl, rfl, rfl, rfl, rfl⟩

/-- Settles O49: every kind of reset writes the marks by `unwrittenAtReset`. -/
theorem resetValues : Obligations.ResetValues :=
  ⟨⟨State.reset_resetState, unwrittenAtReset_marks .draw, rfl⟩,
    fun p => ⟨State.reset_resetState, unwrittenAtReset_marks p.resetRegs, rfl⟩,
    fun s => ⟨s.hostReset_resetState, unwrittenAtReset_marks s.params.resetRegs, rfl, rfl, rfl, rfl, rfl, rfl, rfl⟩⟩

/-- Settles O54: the resets leave no fetch phase open, and of the host's actions only a poke writes memory. -/
theorem resetMeetsInvariant : Obligations.ResetMeetsInvariant := by
  have hreset : Inv State.reset := ⟨State.reset_mem_wf, fun _ => rfl⟩
  refine ⟨hreset, fun _ => hreset, fun s ⟨hm, hf⟩ => ⟨⟨hm, fun _ => rfl⟩, ⟨hm, hf⟩, fun _ _ => ⟨hm, hf⟩, fun a v => ?_⟩⟩
  exact ⟨memWrite_wf hm a.isLt v, hf⟩

end Sys2Proof.Machine
end

section
/-! PROOFS, 20_memory R209 with 60_exceptions R1320. Which interrupts the events of a step report: an instruction, from its fetch on,
reports none. -/

namespace Sys2Proof.Machine

/-! ## The reports -/

/-- The interrupt that an event reports (R1320). -/
def Event.ack? : Event → Option AckKind
  | .intAck k => some k
  | _ => none

/-- The interrupts that the events of the current or last step report, in order. -/
def State.acks (s : State) : List AckKind := s.events.filterMap Event.ack?

theorem Event.ack?_eq_some {e : Event} {k : AckKind} : e.ack? = some k ↔ e = .intAck k := by
  cases e <;> simp [Event.ack?]

theorem State.mem_acks {s : State} {k : AckKind} : k ∈ s.acks ↔ .intAck k ∈ s.events := by
  simp [State.acks, Event.ack?_eq_some]

/-- Events that come after those of `s` add their own reports. -/
theorem State.acks_of_append {s t : State} {ev : List Event} (h : t.events = s.events ++ ev) :
    t.acks = s.acks ++ ev.filterMap Event.ack? := by
  rw [State.acks, h, List.filterMap_append]
  rfl

/-- Events that are no reports add none. -/
theorem State.acks_of_silent {s t : State} {ev : List Event} (h : t.events = s.events ++ ev) (hev : ev.filterMap Event.ack? = []) :
    t.acks = s.acks := by
  rw [State.acks_of_append h, hev, List.append_nil]

namespace State

variable {s : State}

/-! ## Registers and accesses -/

theorem acks_tick {n : Nat} : (s.tick n).acks = s.acks := rfl
theorem acks_setPc {v : Word} : (s.setPc v).acks = s.acks := rfl
theorem acks_setRegs {v : RegFile} : (s.setRegs v).acks = s.acks := rfl
theorem acks_setIdx {x : Idx} {v : Word} : (s.setIdx x v).acks = s.acks := by rw [setIdx_frame]; rfl
theorem acks_setHalf {x : Idx} {k : Half} {v : Byte} : (s.setHalf x k v).acks = s.acks := by rw [setHalf_frame]; rfl
theorem acks_setRegX {x : Idx} {r : RegX} {v : Byte} : (s.setRegX x r v).acks = s.acks := by rw [setRegX_frame]; rfl
theorem acks_setPair {p : Pair} {v : Word} : (s.setPair p v).acks = s.acks := by rw [setPair_frame]; rfl
theorem acks_setPairQ {q : PairQ} {v : Word} : (s.setPairQ q v).acks = s.acks := by rw [setPairQ_frame]; rfl

theorem acks_readDone {a : Word} : (s.readDone a).acks = s.acks := acks_of_silent (congrArg State.events (s.readDone_eq a)) rfl
theorem acks_readDone2 {a : Word} : (s.readDone2 a).acks = s.acks := acks_readDone.trans acks_readDone
theorem acks_store {a : Word} {v : Byte} : (s.store a v).acks = s.acks := acks_of_silent (congrArg State.events (s.store_eq a v)) rfl
theorem acks_store2 {a v : Word} : (s.store2 a v).acks = s.acks := acks_store.trans acks_store
theorem acks_rmw {a : Word} {w : Byte} : (s.rmw a w).acks = s.acks := acks_store.trans acks_readDone
theorem acks_push {v : Word} : (s.push v).acks = s.acks := acks_of_silent (congrArg State.events (s.push_eq v)) rfl
theorem acks_popDone : s.popDone.acks = s.acks := acks_of_silent (congrArg State.events s.popDone_eq) rfl
theorem acks_popPc : s.popPc.acks = s.acks := acks_popDone
theorem acks_exSp {v : Word} : (s.exSp v).acks = s.acks := acks_of_silent (congrArg State.events (s.exSp_eq v)) rfl
theorem acks_inDone {p : Word} : (s.inDone p).acks = s.acks := acks_of_silent (congrArg State.events (s.inDone_eq p)) rfl
theorem acks_out {p : Word} {v : Byte} : (s.out p v).acks = s.acks := acks_of_silent (congrArg State.events (s.out_eq p v)) rfl
theorem acks_returnInt : s.returnInt.acks = s.acks := by
  rw [returnInt_eq]
  exact (acks_of_silent (State.emit_events _ _) rfl).trans acks_popPc

theorem acks_mReadDone {m : RegM} : (s.mReadDone m).acks = s.acks := by
  cases m
  · rfl
  · exact acks_readDone

theorem acks_mWrite {m : RegM} {v : Byte} : (s.mWrite m v).acks = s.acks := by
  cases m
  · rfl
  · exact acks_store

/-! ## The shared bodies of the instructions -/

theorem acks_aluM {op : AluOp} {m : RegM} : (s.aluM op m).acks = s.acks := acks_mReadDone
theorem acks_aluXd {op : AluOp} {x : Idx} {d : Byte} : (s.aluXd op x d).acks = s.acks := acks_readDone
theorem acks_rotM {op : RotOp} {m : RegM} : (s.rotM op m).acks = s.acks := acks_mWrite.trans acks_mReadDone
theorem acks_rotXd {op : RotOp} {x : Idx} {d : Byte} : (s.rotXd op x d).acks = s.acks := acks_rmw
theorem acks_rotXdR {op : RotOp} {x : Idx} {d : Byte} {r : Reg8} : (s.rotXdR op x d r).acks = s.acks := acks_setRegs.trans acks_rotXd
theorem acks_ldUnit {k : Dir} : (s.ldUnit k).acks = s.acks := acks_store.trans acks_readDone
theorem acks_cpUnit {k : Dir} : (s.cpUnit k).acks = s.acks := acks_readDone
theorem acks_inUnit {k : Dir} : (s.inUnit k).acks = s.acks := acks_store.trans acks_inDone
theorem acks_outUnit {k : Dir} : (s.outUnit k).acks = s.acks := acks_out.trans acks_readDone

theorem acks_scfDrawn : s.scfDrawn.acks = s.acks := by
  unfold scfDrawn
  split <;> rfl

theorem acks_ldAFromIr {v : Byte} : (s.ldAFromIr v).acks = s.acks := by
  unfold ldAFromIr
  split <;> rfl

theorem acks_repeatYX : s.repeatYX.acks = s.acks := by
  unfold repeatYX
  split <;> rfl

theorem acks_repeatYXHP : s.repeatYXHP.acks = s.acks := by
  unfold repeatYXHP
  split <;> rfl

theorem acks_ldRepeat : s.ldRepeat.acks = s.acks := by
  unfold ldRepeat
  split
  · rfl
  · exact acks_repeatYX

theorem acks_cpRepeat : s.cpRepeat.acks = s.acks := by
  unfold cpRepeat
  split
  · rfl
  · exact acks_repeatYX

theorem acks_ioRepeat : s.ioRepeat.acks = s.acks := by
  unfold ioRepeat
  split
  · rfl
  · exact acks_repeatYXHP

end State

/-! ## Instructions -/

/-- The result is a next state that reports the interrupts that `s` reports. -/
def AddsNoAck (s : State) (r : Result) : Prop := ∃ t, r = .next t ∧ t.acks = s.acks

theorem AddsNoAck.next {s t : State} (h : t.acks = s.acks) : AddsNoAck s (.next t) := ⟨t, rfl, h⟩

/-- Most meanings end with their T-states. -/
theorem AddsNoAck.tick {s t : State} {n : Nat} (h : t.acks = s.acks) : AddsNoAck s (.next (t.tick n)) := ⟨_, rfl, h⟩

theorem AddsNoAck.ite {p : Prop} [Decidable p] {s : State} {r r' : Result} (h : AddsNoAck s r) (h' : AddsNoAck s r') :
    AddsNoAck s (if p then r else r') := by
  split
  · exact h
  · exact h'

open State in
/-- No instruction reports an interrupt: by the accesses that it makes. -/
theorem exec_addsNoAck (i : Instr) (s : State) : AddsNoAck s (exec i s) := by
  cases i with
  -- No access
  | ldRR | ldRN | ldIA | ldRA | ldSpHl | ldSpIxy | exDeHl | exAfAf | exx => exact .next rfl
  | addAN | adcAN | subN | sbcAN | andN | xorN | orN | cpN => exact .next rfl
  | addAXh | adcAXh | subXh | sbcAXh | andXh | xorXh | orXh | cpXh => exact .next rfl
  | incR | decR | daa | cpl | neg | addHlSs | adcHlSs | sbcHlSs => exact .next rfl
  | rlca | rla | rrca | rra | bitBR | setBR | resBR | jpNn | jr | jpHl | jpIxy => exact .next rfl
  | nop | halt | di | ei | imM | edUndefined => exact .next rfl
  | prefixCB | prefixED | prefixIdx | prefixIdxCB | overriddenByIdx | overriddenByEd | ignoredPrefix => exact .next rfl
  | jpCcNn | jrCc | djnz => exact .ite (.next rfl) (.next rfl)
  | ldXh => exact .tick acks_setRegX
  | ldXhN | incXh | decXh => exact .tick acks_setHalf
  | ldDdNn | incSs | decSs => exact .tick acks_setPair
  | ldIxyNn | addIxyPp | incIxy | decIxy => exact .tick acks_setIdx
  | ldAI => exact .tick (acks_ldAFromIr (v := s.i))
  | ldAR => exact .tick (acks_ldAFromIr (v := s.r))
  | ccf | scf => exact .tick acks_scfDrawn
  -- Reads
  | ldRHl | ldRXd | ldABc | ldADe | ldANn => exact .tick acks_readDone
  | ldHlInd => exact .tick acks_readDone2
  | ldIxyInd => exact .tick (acks_setIdx.trans acks_readDone2)
  | ldDdInd => exact .tick (acks_setPair.trans acks_readDone2)
  | popQq => exact .tick (acks_setPairQ.trans acks_popDone)
  | popIxy => exact .tick (acks_setIdx.trans acks_popDone)
  | addAS | adcAS | subS | sbcAS | andS | xorS | orS | cpS => exact .next acks_aluM
  | addAXd | adcAXd | subXd | sbcAXd | andXd | xorXd | orXd | cpXd => exact .next acks_aluXd
  | cpi | cpd => exact .tick acks_cpUnit
  | cpir | cpdr => exact .next (acks_cpRepeat.trans acks_cpUnit)
  | bitBHl | bitBXd =>
    simp only [exec, execBitBHl, execBitBXd]
    split <;> exact .tick acks_readDone
  | ret | retn => exact .tick acks_popPc
  | retCc => exact .ite (.tick acks_popPc) (.next rfl)
  | reti => exact .tick acks_returnInt
  -- Stores
  | ldHlR | ldXdR | ldHlN | ldXdN | ldBcA | ldDeA | ldNnA => exact .tick acks_store
  | ldNnHl | ldNnIxy | ldNnDd => exact .tick acks_store2
  | pushQq | pushIxy => exact .tick acks_push
  | callNn | rst => exact .tick (acks_setPc.trans acks_push)
  | callCcNn => exact .ite (.tick (acks_setPc.trans acks_push)) (.next rfl)
  -- A read and a store
  | exSpHl => exact .tick (acks_setRegs.trans acks_exSp)
  | exSpIxy => exact .tick (acks_setIdx.trans acks_exSp)
  | incHl | decHl | incXd | decXd | rld | rrd => exact .tick acks_rmw
  | rlcM | rrcM | rlM | rrM | slaM | sraM | sllM | srlM => exact .next acks_rotM
  | rlcXd | rrcXd | rlXd | rrXd | slaXd | sraXd | sllXd | srlXd => exact .next acks_rotXd
  | rlcXdR | rrcXdR | rlXdR | rrXdR | slaXdR | sraXdR | sllXdR | srlXdR => exact .next acks_rotXdR
  | setBHl | resBHl | setBXd | resBXd => exact .tick acks_rmw
  | setBXdR | resBXdR => exact .tick (acks_setRegs.trans acks_rmw)
  | ldi | ldd => exact .tick acks_ldUnit
  | ldir | lddr => exact .next (acks_ldRepeat.trans acks_ldUnit)
  -- Ports
  | inAN | inRC | inFC => exact .tick acks_inDone
  | outNA | outCR | outC0 => exact .tick acks_out
  | ini | ind => exact .tick acks_inUnit
  | inir | indr => exact .next (acks_ioRepeat.trans acks_inUnit)
  | outi | outd => exact .tick acks_outUnit
  | otir | otdr => exact .next (acks_ioRepeat.trans acks_outUnit)

/-! ## The fetch phase -/

namespace State

variable {s : State}

theorem acks_fetchByte : s.fetchByte.acks = s.acks := acks_of_silent (congrArg State.events s.fetchByte_eq) rfl

theorem acks_fetchFirst {c : Context} : (s.fetchFirst c).acks = s.acks := by
  unfold fetchFirst
  split
  · exact acks_of_silent (congrArg State.events s.fetchOpcode_eq) rfl
  · exact acks_fetchByte

theorem acks_fetchBytes {n : Nat} : (s.fetchBytes n).acks = s.acks := by
  induction n generalizing s with
  | zero => rfl
  | succ n ih => exact ih.trans acks_fetchByte

theorem acks_fetchUnit {c : Context} : (s.fetchUnit c).acks = s.acks := by
  unfold fetchUnit fetchLen
  split
  · rfl
  · exact acks_fetchBytes.trans acks_fetchFirst

end State

section
variable {s t : State}

/-- An instruction with its bookkeeping reports none. -/
theorem acks_of_runInstr {i : Instr} (h : runInstr i s = .next t) : t.acks = s.acks := by
  obtain ⟨-, u, hu, rfl⟩ := runInstr_next h
  obtain ⟨v, hv, hacks⟩ := exec_addsNoAck i s
  rw [hv] at hu
  cases hu
  rw [State.markWritten_eq]
  exact hacks

/-- The loop over fetch units reports none. -/
theorem acks_of_runUnits {n : Nat} (h : runUnits n s = .next t) : t.acks = s.acks :=
  runUnits_induction (P := fun u => u.acks = s.acks)
    (fun _ _ _ hs _ h => (acks_of_runInstr h).trans (State.acks_fetchUnit.trans hs)) n s t rfl h

end

end Sys2Proof.Machine
end

section
/-! PROOFS, 60_exceptions R1310-R1312, R1320. The interrupt that a step from a boundary reports is the one that is due; and a step that
leaves the mark of EI comes before one that accepts no INT. -/

namespace Sys2Proof.Machine

open Sys2Proof.Claims

/-! ## Reports (R1312, R1320) -/

section
variable {s t : State}

/-- An acceptance reports its kind (R1320). -/
theorem State.acks_acceptPush {k : AckKind} : (s.acceptPush k).acks = s.acks ++ [k] :=
  State.acks_of_append (congrArg State.events (s.acceptPush_eq k))

theorem acks_of_acceptNmi (h : acceptNmi s = .next t) : t.acks = s.acks ++ [.nmi] := by
  cases checkReads_next h
  exact State.acks_tick.trans (State.acks_setPc.trans State.acks_acceptPush)

theorem acks_of_acceptInt (h : acceptInt s = .next t) : t.acks = s.acks ++ [ackOf s.im] := by
  unfold acceptInt at h
  split at h <;> rename_i him <;> rw [him]
  · unfold acceptIm0 at h
    split at h
    · cases checkReads_next h
      exact State.acks_tick.trans (State.acks_setPc.trans State.acks_acceptPush)
    · cases h
  · cases checkReads_next h
    exact State.acks_tick.trans (State.acks_setPc.trans State.acks_acceptPush)
  · cases checkReads_next h
    exact State.acks_tick.trans (State.acks_setPc.trans (State.acks_readDone2.trans State.acks_acceptPush))

/-- What a step from a boundary reports: a pending NMI, else an INT that is due, else nothing (R1312). -/
theorem acks_of_step (hf : s.fetching = none) (h : step s = .next t) :
    (s.nmiPending = true ∧ t.acks = [.nmi]) ∨ (IntDue s ∧ t.acks = [ackOf s.im]) ∨
      (s.nmiPending = false ∧ ¬IntDue s ∧ t.acks = []) := by
  rcases step_cases s with ⟨c, hc, hs⟩ | ⟨-, hn, hs⟩ | ⟨-, hn, ha, hs⟩ | ⟨-, hn, ha, -, hs⟩ | ⟨-, hn, ha, -, hs⟩ <;> rw [hs] at h
  · rw [hf] at hc
    cases hc
  · exact .inl ⟨hn, acks_of_acceptNmi h⟩
  · exact .inr (.inl ⟨(intAccepted_iff hf hn).mp ha, acks_of_acceptInt h⟩)
  · cases h
    exact .inr (.inr ⟨hn, not_intDue hf hn ha, rfl⟩)
  · exact .inr (.inr ⟨hn, not_intDue hf hn ha, acks_of_runUnits h⟩)

/-- With nothing to accept a step from a boundary reports nothing. -/
theorem not_intAck_of_step (hf : s.fetching = none) (hn : s.nmiPending = false) (hdue : ¬IntDue s) (h : step s = .next t)
    (k : AckKind) : .intAck k ∉ t.events := by
  rw [← State.mem_acks]
  rcases acks_of_step hf h with ⟨hn', -⟩ | ⟨hdue', -⟩ | ⟨-, -, ha⟩
  · simp [hn] at hn'
  · exact absurd hdue' hdue
  · simp [ha]

/-- An INT is acknowledged as an INT. -/
theorem ackOf_ne_nmi (m : IntMode) : ackOf m ≠ .nmi := by cases m <;> decide

end

/-- Settles O44: a step reports what `acks_of_step` says, and an INT is not due while an NMI is pending. -/
theorem acknowledgesExactlyWhenDue : Obligations.AcknowledgesExactlyWhenDue := by
  intro s t hf h
  simp only [← State.mem_acks]
  rcases acks_of_step hf h with ⟨hn, ha⟩ | ⟨hdue, ha⟩ | ⟨hn, hdue, ha⟩ <;> rw [ha]
  · simp [IntDue, hn]
  · obtain ⟨-, hn, -⟩ := id hdue
    simp [hdue, hn, (ackOf_ne_nmi s.im).symm]
  · simp [hn, hdue]

/-! ## The EI shadow (R1311) -/

section
variable {s t : State}

/-- A state that EI has marked is at a boundary with both flip-flops set (R1104, R1311). -/
def EiMarked (s : State) : Prop := s.intInhibit = .ei → s.fetching = none ∧ s.iff1 = true ∧ s.iff2 = true

/-- Of the instructions only EI marks the state, and it ends the fetch phase. -/
theorem fetchUnit_keeps_eiMarked {c : Context} (hs : EiMarked s) (hc : s.fetching = some c)
    (h : runInstr (s.unitAt c).instr (s.fetchUnit c) = .next t) : EiMarked t := by
  intro ht
  obtain ⟨-, u, hu, rfl⟩ := runInstr_next h
  have hk := exec_next hu
  rw [State.markWritten_eq] at ht ⊢
  have hf := s.fetchUnit_frame c
  by_cases hi : (s.unitAt c).instr = .ei
  · rw [hi] at hk
    exact ⟨hk.fetching.trans (by rw [hf]; rfl), hk.iff1, hk.iff2⟩
  · have hbefore : s.intInhibit = .ei := by
      rw [← ht, hk.intInhibit, State.control_intInhibit _ hi, hf]
    obtain ⟨hnone, -⟩ := hs hbefore
    rw [hnone] at hc
    cases hc

end

/-- A step that leaves the mark of EI ran an instruction, so it accepted nothing and was not halted. -/
theorem step_marks_ei {s t : State} (hf : s.fetching = none) (h : step s = .next t) (ht : t.intInhibit = .ei) :
    s.nmiPending = false ∧ ¬IntDue s ∧ s.halted = false ∧ t.fetching = none ∧ t.iff1 = true ∧ t.iff2 = true := by
  rcases step_next_cases h with ⟨hf', -⟩ | ⟨-, k, _, _, _, _, rfl⟩ | ⟨-, -, -, rfl⟩ | ⟨-, hn, hdue, hh, hr⟩
  · exact absurd hf hf'
  · rw [State.acceptPush_eq] at ht
    cases ht
  · cases ht
  · have hbegin : EiMarked (s.beginStep.setFetching (some .plain)) := fun h => by cases h
    exact ⟨hn, hdue, hh, runUnits_induction (P := EiMarked) (fun _ _ _ => fetchUnit_keeps_eiMarked) _ _ t hbegin hr ht⟩

/-- Settles O45: neither in the step that leaves the mark of EI nor in the one after it is an INT due. -/
theorem eiDefersOneStep : Obligations.EiDefersOneStep := by
  intro s t hf h ht
  obtain ⟨hn, hdue, hh, hf', h1, h2⟩ := step_marks_ei hf h ht
  exact ⟨⟨h1, h2, hh, not_intAck_of_step hf hn hdue h⟩, fun hn' u hu => not_intAck_of_step hf' hn' (by simp [IntDue, ht]) hu⟩

end Sys2Proof.Machine
end
